-- ==== Sys2Proof/Word.lean ====
section
/-! DEFINITION. The words and the identifiers of the IZ416: bytes of a frame, the 32-bit millisecond uptime, and the
numbers that name segments, links, bridges and contact lines (00_scope.md, "Identifiers and targets"). -/

namespace Sys2Proof

/-- A byte of a frame. -/
abbrev Byte := BitVec 8

/-- A reading of the uptime counter: a 32-bit unsigned count of milliseconds that wraps (R20). -/
abbrev Uptime := BitVec 32

/-- A segment id, 0 to 15. -/
abbrev SegId := Fin 16

/-- A link id, 0 to 23. -/
abbrev LinkId := Fin 24

/-- A bridge number, 0 to 3. -/
abbrev BridgeId := Fin 4

/-- An auxiliary contact line, AUX0 to AUX11. -/
abbrev AuxLine := Fin 12

/-- An external verdict line, EXT0 or EXT1. -/
abbrev ExtLine := Fin 2

/-- A period between two readings: the later minus the earlier, modulo 2^32 (R20). -/
def elapsed (now before : Uptime) : Nat := (now - before).toNat

end Sys2Proof
end

