-- ==== Sys2Proof/Config.lean ====
section
/-! DEFINITION. What one part fixes for good (limits, fixed periods, factory ranges, defaults), and the free values: the
constants with no body that stand where the manual states no value. -/

namespace Sys2Proof.Config

/-- G_MAX, the largest conductance the part stores, in pS (00_scope.md, "Units and ranges"). -/
def gMax : Nat := 100000000

/-- The largest sample and phase value, in dV (R64). -/
def maxVolts : Nat := 16000

/-- The length of the switch confirmation timeout and of every watch, in 1 ms samples (R66). -/
def watchLength : Nat := 20

/-- The number of samples in a full settle window (R84). -/
def windowLength : Nat := 8

/-- The number of bytes the receive buffer stores, and after which the port shifts out 0x00 (R156, R157). -/
def bufferBytes : Nat := 64

/-- The valid range of a reference resistance trim word, in units of 10 ohm (R62). -/
def refTrimMin : Nat := 5000
/-- See `refTrimMin`. -/
def refTrimMax : Nat := 50000
/-- The valid range of a gain trim word, in units of 1/65536 (R62). -/
def gainTrimMin : Nat := 58982
/-- See `gainTrimMin`. -/
def gainTrimMax : Nat := 72090

/-- FREE VALUE (assumption log 3): the mean a phase takes when the max dwell runs out over a settle window that does
not hold eight samples. R86 says that this cannot happen while the sample events come every 10 ms; the commands of this
model do not enforce that period, and R85 states no value for such a window. The argument is the window's values of one
channel, oldest first. -/
opaque shortWindowMean : List Nat → Nat

/-- FREE VALUE (assumption log 4): the byte READ LINK sends for the sensed state of a link in DECLARED mode. R37 says the
sensed state is none there, R163 names no code for an absent contact state. -/
opaque absentSensedByte : Byte

/-- FREE VALUE (assumption log 5): the two bytes READ TRIM sends for a gain word above 65535. R62 and R64 admit gain
words up to 72090, R171 gives the field two bytes. -/
opaque wideGainField : Nat → BitVec 16

end Sys2Proof.Config
end

