-- ==== Sys2Proof/Syntax.lean ====
section
/-! DEFINITION. The commands of the IZ416: one constructor per row of spec/opcode_table.json. A row that is a frame's
command is the chip-select RISE that ends its frame, and carries what the host clocked in after the command code; a row
that is an event of the part carries the record it concerns and the levels or codes the part samples in it. -/

namespace Sys2Proof

/-- What the host clocked into an open frame after its command code: the complete bytes in the order received, the bits
after the last complete byte (fewer than eight), which the rise discards (R156), and whether the clock idled high. -/
structure Clocked where
  /-- The complete bytes after byte 0: the target, the parameters, and any bytes beyond. -/
  bytes : List Byte
  /-- The bits after the last complete byte. -/
  tail : List Bool
  /-- The clock idles high: SCK gave a falling edge before its first rising one, so that SDO runs one bit ahead (R155). -/
  early : Bool
  deriving DecidableEq, Repr

/-- The raw levels of the fourteen contact inputs as the part samples them: bit n is AUXn, respectively EXTn, and 1 is
HIGH (R29, R39). -/
structure RawContacts where
  aux : BitVec 12
  ext : BitVec 2
  deriving DecidableEq, Repr

/-- Every level the part samples at a 1 ms event of its time base: the contact inputs (R29) and the switch senses of the
four bridges, bit x being SNS_P_x or SNS_N_x and 1 being HIGH, that is closed (R66). -/
structure RawLevels where
  contacts : RawContacts
  snsP : BitVec 4
  snsN : BitVec 4
  deriving DecidableEq, Repr

/-- The commands: the rows of spec/opcode_table.json. -/
inductive Instr where
  -- the serial command port
  /-- CHIP_SELECT_FALL (R155). -/
  | chipSelectFall
  /-- UNKNOWN_COMMAND (R159): a rise of CS_N over a frame with no complete byte (`none`) or with an unlisted code. -/
  | unknownCommand (code : Option Byte) (f : Clocked)
  /-- NO_OPERATION (R164). -/
  | noOperation (f : Clocked)
  /-- READ_SUMMARY (R165). -/
  | readSummary (f : Clocked)
  /-- READ_SEGMENT (R19). -/
  | readSegment (f : Clocked)
  /-- READ_NET (R59). -/
  | readNet (f : Clocked)
  /-- READ_LINK (R37). -/
  | readLink (f : Clocked)
  /-- READ_BRIDGE (R78). -/
  | readBridge (f : Clocked)
  /-- READ_NOTICES (R145). -/
  | readNotices (f : Clocked)
  /-- READ_TRIM (R167). -/
  | readTrim (f : Clocked)
  -- the segment table
  /-- DEFINE_SEGMENT (R4). -/
  | defineSegment (f : Clocked)
  /-- AMEND_SEGMENT (R6). -/
  | amendSegment (f : Clocked)
  /-- RETIRE_SEGMENT (R18). -/
  | retireSegment (f : Clocked)
  /-- CLEAR_LOW_MARK (R16). -/
  | clearLowMark (f : Clocked)
  /-- ACKNOWLEDGE_FAULT (R135). -/
  | acknowledgeFault (f : Clocked)
  /-- SPOT_CHECK (R94). -/
  | spotCheck (f : Clocked)
  -- the link table
  /-- DEFINE_LINK (R24). -/
  | defineLink (f : Clocked)
  /-- RETIRE_LINK (R28). -/
  | retireLink (f : Clocked)
  /-- DECLARE_LINK (R27). -/
  | declareLink (f : Clocked)
  -- the bridges
  /-- ATTACH_BRIDGE (R76). -/
  | attachBridge (f : Clocked)
  /-- DETACH_BRIDGE (R77). -/
  | detachBridge (f : Clocked)
  /-- RESET_BRIDGE (R75). -/
  | resetBridge (f : Clocked)
  -- notices, timing, restart
  /-- SET_NOTICE_ENABLES (R148). -/
  | setNoticeEnables (f : Clocked)
  /-- CLEAR_NOTICE_ENABLES (R148). -/
  | clearNoticeEnables (f : Clocked)
  /-- SET_TIMING (R166). -/
  | setTiming (f : Clocked)
  /-- RESTART (R168), with the raw contact levels the filters sample at it (R39). -/
  | restart (f : Clocked) (raw : RawContacts)
  -- resets
  /-- POWER_ON_RESET (R169): the supply becomes valid; with the raw contact levels sampled at it (R39). -/
  | powerOnReset (raw : RawContacts)
  /-- PIN_RESET (R169): a fall of RESET_N. -/
  | pinReset
  /-- RESET_N_RISE (R169), with the raw contact levels sampled at it (R39). -/
  | resetNRise (raw : RawContacts)
  -- the time base, the filters, the link and segment timers
  /-- UPTIME_ADVANCE (R20): a 1 ms event, with every level sampled at it (R29, R66). -/
  | uptimeAdvance (raw : RawLevels)
  /-- FILTERED_CHANGE_AUX (R32) on a line. -/
  | filteredChangeAux (line : AuxLine)
  /-- FILTERED_CHANGE_EXT (R55) on a line. -/
  | filteredChangeExt (line : ExtLine)
  /-- AGREEMENT_WINDOW_EXPIRY (R34) of a link. -/
  | agreementWindowExpiry (link : LinkId)
  /-- EXPIRY (R12) of a segment. -/
  | expiry (seg : SegId)
  -- samples and the timers of a cycle; a net is named by its anchor
  /-- SAMPLE_EVENT (R64) of a bridge, with the ADC codes of UP and UN. -/
  | sampleEvent (bridge : BridgeId) (codeP codeN : BitVec 16)
  /-- DWELL_TIMER_EXPIRY (R83) of a net. -/
  | dwellTimerExpiry (anchor : SegId)
  /-- MAX_DWELL_TIMER_EXPIRY (R86) of a net. -/
  | maxDwellTimerExpiry (anchor : SegId)
  /-- QUIET_TIMER_EXPIRY (R51) of a net. -/
  | quietTimerExpiry (anchor : SegId)
  /-- SPACING_EXPIRY (R90) of a net. -/
  | spacingExpiry (anchor : SegId)
  -- switch confirmations and faults
  /-- CLOSE_CONFIRMATION (R69) of a bridge. -/
  | closeConfirmation (bridge : BridgeId)
  /-- CLOSE_TIMEOUT (R69) of a bridge. -/
  | closeTimeout (bridge : BridgeId)
  /-- OPEN_CONFIRMATION (R71) of a bridge. -/
  | openConfirmation (bridge : BridgeId)
  /-- OPEN_TIMEOUT (R71) of a bridge. -/
  | openTimeout (bridge : BridgeId)
  /-- SENSE_DROPOUT (R70) of a bridge. -/
  | senseDropout (bridge : BridgeId)
  /-- STUCK_OPPOSITE_SENSE (R70) of a bridge. -/
  | stuckOppositeSense (bridge : BridgeId)
  /-- STUCK_IN_PARKED (R72) of a bridge. -/
  | stuckInParked (bridge : BridgeId)
  /-- STUCK_ESCALATION (R74) of a bridge. -/
  | stuckEscalation (bridge : BridgeId)
  /-- POWER_ON_RESET_START (R141): the supply ceases to be valid. -/
  | powerOnResetStart
  deriving DecidableEq, Repr

end Sys2Proof
end

