-- ==== Sys2Proof/Decode.lean ====
section
/-! DEFINITION. The command code table of R171 and the reading of a frame's bytes as a command (R156, R159). No row of
spec/opcode_table.json gives bits, so `decodeTableWord` spells no command. -/

namespace Sys2Proof

/-- The command lengths of the command table of R171, code and target byte included; `none` for a code not listed. -/
def commandLength (code : Byte) : Option Nat :=
  match code.toNat with
  | 0x00 | 0x10 | 0x11 | 0x12 | 0x13 | 0x14 | 0x15 | 0x16 => some 2
  | 0x20 | 0x21 => some 12
  | 0x22 | 0x23 | 0x24 | 0x28 => some 2
  | 0x30 => some 8
  | 0x31 => some 2
  | 0x32 | 0x38 => some 3
  | 0x39 | 0x3A => some 2
  | 0x40 | 0x41 => some 3
  | 0x50 => some 18
  | 0x5A => some 2
  | _ => none

/-- The command that ends a frame: byte 0 is the command code (R156), a frame with no byte or with an unlisted code is
the row UNKNOWN_COMMAND (R159). `raw` are the contact levels RESTART samples. -/
def decodeFrame (bytes : List Byte) (tail : List Bool) (early : Bool) (raw : RawContacts) : Instr :=
  match bytes with
  | [] => .unknownCommand none ⟨[], tail, early⟩
  | code :: rest =>
    match code.toNat with
    | 0x00 => .noOperation ⟨rest, tail, early⟩
    | 0x10 => .readSummary ⟨rest, tail, early⟩
    | 0x11 => .readSegment ⟨rest, tail, early⟩
    | 0x12 => .readNet ⟨rest, tail, early⟩
    | 0x13 => .readLink ⟨rest, tail, early⟩
    | 0x14 => .readBridge ⟨rest, tail, early⟩
    | 0x15 => .readNotices ⟨rest, tail, early⟩
    | 0x16 => .readTrim ⟨rest, tail, early⟩
    | 0x20 => .defineSegment ⟨rest, tail, early⟩
    | 0x21 => .amendSegment ⟨rest, tail, early⟩
    | 0x22 => .retireSegment ⟨rest, tail, early⟩
    | 0x23 => .clearLowMark ⟨rest, tail, early⟩
    | 0x24 => .acknowledgeFault ⟨rest, tail, early⟩
    | 0x28 => .spotCheck ⟨rest, tail, early⟩
    | 0x30 => .defineLink ⟨rest, tail, early⟩
    | 0x31 => .retireLink ⟨rest, tail, early⟩
    | 0x32 => .declareLink ⟨rest, tail, early⟩
    | 0x38 => .attachBridge ⟨rest, tail, early⟩
    | 0x39 => .detachBridge ⟨rest, tail, early⟩
    | 0x3A => .resetBridge ⟨rest, tail, early⟩
    | 0x40 => .setNoticeEnables ⟨rest, tail, early⟩
    | 0x41 => .clearNoticeEnables ⟨rest, tail, early⟩
    | 0x50 => .setTiming ⟨rest, tail, early⟩
    | 0x5A => .restart ⟨rest, tail, early⟩ raw
    | _ => .unknownCommand (some code) ⟨rest, tail, early⟩

/-- The bytes and the bits after them that a host clocks for a command that ends a frame, and whether its clock idles high;
`none` for the other rows. -/
def frameOf : Instr → Option (List Byte × List Bool × Bool)
  | .unknownCommand none f => some (f.bytes, f.tail, f.early)
  | .unknownCommand (some code) f => some (code :: f.bytes, f.tail, f.early)
  | .noOperation f => some (0x00#8 :: f.bytes, f.tail, f.early)
  | .readSummary f => some (0x10#8 :: f.bytes, f.tail, f.early)
  | .readSegment f => some (0x11#8 :: f.bytes, f.tail, f.early)
  | .readNet f => some (0x12#8 :: f.bytes, f.tail, f.early)
  | .readLink f => some (0x13#8 :: f.bytes, f.tail, f.early)
  | .readBridge f => some (0x14#8 :: f.bytes, f.tail, f.early)
  | .readNotices f => some (0x15#8 :: f.bytes, f.tail, f.early)
  | .readTrim f => some (0x16#8 :: f.bytes, f.tail, f.early)
  | .defineSegment f => some (0x20#8 :: f.bytes, f.tail, f.early)
  | .amendSegment f => some (0x21#8 :: f.bytes, f.tail, f.early)
  | .retireSegment f => some (0x22#8 :: f.bytes, f.tail, f.early)
  | .clearLowMark f => some (0x23#8 :: f.bytes, f.tail, f.early)
  | .acknowledgeFault f => some (0x24#8 :: f.bytes, f.tail, f.early)
  | .spotCheck f => some (0x28#8 :: f.bytes, f.tail, f.early)
  | .defineLink f => some (0x30#8 :: f.bytes, f.tail, f.early)
  | .retireLink f => some (0x31#8 :: f.bytes, f.tail, f.early)
  | .declareLink f => some (0x32#8 :: f.bytes, f.tail, f.early)
  | .attachBridge f => some (0x38#8 :: f.bytes, f.tail, f.early)
  | .detachBridge f => some (0x39#8 :: f.bytes, f.tail, f.early)
  | .resetBridge f => some (0x3A#8 :: f.bytes, f.tail, f.early)
  | .setNoticeEnables f => some (0x40#8 :: f.bytes, f.tail, f.early)
  | .clearNoticeEnables f => some (0x41#8 :: f.bytes, f.tail, f.early)
  | .setTiming f => some (0x50#8 :: f.bytes, f.tail, f.early)
  | .restart f _ => some (0x5A#8 :: f.bytes, f.tail, f.early)
  | .chipSelectFall | .powerOnReset _ | .pinReset | .resetNRise _ | .uptimeAdvance _ | .filteredChangeAux _
  | .filteredChangeExt _ | .agreementWindowExpiry _ | .expiry _ | .sampleEvent _ _ _ | .dwellTimerExpiry _
  | .maxDwellTimerExpiry _ | .quietTimerExpiry _ | .spacingExpiry _ | .closeConfirmation _ | .closeTimeout _
  | .openConfirmation _ | .openTimeout _ | .senseDropout _ | .stuckOppositeSense _ | .stuckInParked _
  | .stuckEscalation _ | .powerOnResetStart => none

/-- The clock of the frame that the command ends idles high (R155). -/
def Instr.early (c : Instr) : Bool := ((frameOf c).map fun clocked => clocked.2.2).getD false

/-- The command a word spells by the table's bits. The table gives no row any bits: no word spells a command. -/
def decodeTableWord (_nbits _w : Nat) : Option Instr := none

end Sys2Proof
end

