-- ==== Sys2Proof/WellFormed.lean ====
section
/-! DEFINITION. Which terms are commands at all: the checks on the operands that the types leave open. -/

namespace Sys2Proof

/-- Fewer than eight bits follow the last complete byte (R156). -/
def Clocked.wf (f : Clocked) : Bool := f.tail.length < 8

/-- The row UNKNOWN_COMMAND is a frame of length 0, or one whose command code the command table does not list (R159). -/
def unknownFrame (code : Option Byte) (f : Clocked) : Bool :=
  match code with
  | none => f.bytes.isEmpty
  | some c => (commandLength c).isNone

/-- Well-formedness of a command. -/
def Instr.wf : Instr → Bool
  | .chipSelectFall => true
  | .unknownCommand code f => unknownFrame code f && f.wf
  | .noOperation f | .readSummary f | .readSegment f | .readNet f | .readLink f | .readBridge f | .readNotices f
  | .readTrim f | .defineSegment f | .amendSegment f | .retireSegment f | .clearLowMark f | .acknowledgeFault f
  | .spotCheck f | .defineLink f | .retireLink f | .declareLink f | .attachBridge f | .detachBridge f | .resetBridge f
  | .setNoticeEnables f | .clearNoticeEnables f | .setTiming f | .restart f _ => f.wf
  | .powerOnReset _ | .pinReset | .resetNRise _ | .uptimeAdvance _ | .filteredChangeAux _ | .filteredChangeExt _
  | .agreementWindowExpiry _ | .expiry _ | .sampleEvent _ _ _ | .dwellTimerExpiry _ | .maxDwellTimerExpiry _
  | .quietTimerExpiry _ | .spacingExpiry _ | .closeConfirmation _ | .closeTimeout _ | .openConfirmation _
  | .openTimeout _ | .senseDropout _ | .stuckOppositeSense _ | .stuckInParked _ | .stuckEscalation _
  | .powerOnResetStart => true

end Sys2Proof
end

