-- ==== Sys2Proof/Machine/State.lean ====
section
/-! DEFINITION. The state of the IZ416 as plain data: the segment table, the link table and the contact filters, the
nets with their cycles, the bridge records, the notice sets, the serial command port and the output lines, and beside
them the queue of the commands that wait. INVENTORY.md lists every field with its rule and its reset value. -/

namespace Sys2Proof.Machine

/-! ## Why a step can stop -/

/-- The faults of the part. There are none: the manual describes no condition that stops the part (R161: the port takes
a command at every frame), so no meaning faults, which is neither safe nor unsafe. -/
inductive Fault where
  deriving DecidableEq, Repr

/-- The refusals of the model. -/
inductive Refusal where
  /-- Raised by `exec` for a row that has no meaning yet; safe. No row is left so. -/
  | notModelled (mnemonic : String)
  /-- Raised by `execUnknownCommand` for a term that is not the row UNKNOWN_COMMAND: it names a LISTED command code, or
  it has bytes after no command code (`Instr.wf` refuses such a term). No frame of the part is such a term; safe. -/
  | notAnUnknownCommand
  deriving DecidableEq, Repr

/-! ## Enumerated fields, with the names of the manual -/

/-- Source of a segment's verdict (R3). -/
inductive Source where
  | own | ext0 | ext0Inv | ext1 | ext1Inv
  deriving DecidableEq, Repr

/-- How a segment's values were obtained (section 1.1). -/
inductive Quality where
  | none | shared | derived | direct
  deriving DecidableEq, Repr

/-- The alarm of a segment (R127). -/
inductive Alarm where
  | clear | warn | fault
  deriving DecidableEq, Repr

/-- The outcome of a cycle or of a spot check (R171, Encodings). -/
inductive CycleOutcome where
  | valid | degraded | overRange | lowVoltage | unsteady | indeterminate | abandoned | bridgeFault | noMeasurement
  | external
  deriving DecidableEq, Repr

/-- The verdict of an outside monitor (R54). -/
inductive Verdict where
  | ok | fault
  deriving DecidableEq, Repr

/-- The state of a contact or link, OPEN or CLOSED. -/
inductive Contact where
  | opened | closed
  deriving DecidableEq, Repr

/-- The mode of a link (section 2.2). -/
inductive LinkMode where
  | declared | sensed | checked
  deriving DecidableEq, Repr

/-- The polarity of an auxiliary contact (R32). -/
inductive Polarity where
  | normallyOpen | normallyClosed
  deriving DecidableEq, Repr

/-- The state of a bridge (section 4.2). -/
inductive BridgeState where
  | parked | closing | dwell | settling | opening | faulted
  deriving DecidableEq, Repr

/-- The side of a bridge, and the phase of a cycle. -/
inductive Phase where
  | p | n
  deriving DecidableEq, Repr

/-- Why a bridge is FAULTED (section 4.2). -/
inductive FaultCause where
  | trim | closeTimeout | openTimeout | stuck
  deriving DecidableEq, Repr

/-- How a net is supervised (R48). -/
inductive Supervision where
  | own | external | none
  deriving DecidableEq, Repr

/-- What a net is doing (section 3.1). -/
inductive NetState where
  | unmeasurable | external | quiet | rest | phaseP | phaseN | release
  deriving DecidableEq, Repr

/-- Why a net cannot be measured (section 3.1). -/
inductive Reason where
  | noBridge | stuckBridge | allFaulted
  deriving DecidableEq, Repr

/-- The status codes of R171. -/
inductive Status where
  | ok | clamped | nothing | unknownCommand | shortFrame | badTarget | notDefined | alreadyDefined | linked | sameEnds
  | bridgeTaken | wrongMode | noMeasurement | external | notFaulted | stillFaulty | trimInvalid | badValue
  deriving DecidableEq, Repr

/-- The segment notice kinds (section 9.1). -/
inductive SegNotice where
  | faultEnter | faultExit | warnEnter | warnExit | stale | netChange | spotDone | inconsistent
  deriving DecidableEq, Repr

/-- The device notice kinds (section 9.1). -/
inductive DevNotice where
  | bridgeFault | linkDisagree | trimFault | restarted
  deriving DecidableEq, Repr

/-! ## The records -/

/-- The four conductance thresholds of a segment, in pS (R5). -/
structure Thresholds where
  faultOn : Nat
  faultOff : Nat
  warnOn : Nat
  warnOff : Nat
  deriving DecidableEq, Repr

/-- The fields of a DEFINED segment record (section 1.1). -/
structure Segment where
  vMax : Nat
  faultFactor : Nat
  warnFactor : Nat
  /-- validity in seconds -/
  validity : Nat
  source : Source
  latch : Bool
  drive : Bool
  bridge : Option BridgeId
  quality : Quality
  gp : Nat
  gn : Nat
  attrTime : Uptime
  expiry : Option Uptime
  stale : Bool
  /-- the externally-supervised flag -/
  ext : Bool
  degraded : Bool
  alarm : Alarm
  thresholds : Thresholds
  lowMark : Option Nat
  /-- the request time of a pending spot check; `none` while the spot-pending flag is clear -/
  spot : Option Uptime
  lastSpot : Option CycleOutcome
  /-- the notice sets, each a byte with the bits of R171 -/
  enables : BitVec 8
  pending : BitVec 8
  repeated : Bool
  deriving DecidableEq, Repr

/-- The fields of a DEFINED link record (section 2.1). -/
structure Link where
  endA : SegId
  endB : SegId
  mode : LinkMode
  aux : Option AuxLine
  polarity : Option Polarity
  declared : Contact
  sensed : Option Contact
  effective : Contact
  disagreeStart : Option Uptime
  disagreeFlag : Bool
  deriving DecidableEq, Repr

/-- A contact filter (R29). `due` is the model's own field: the comparison at the latest sample found the run at the
debounce time, and the filtered change of that 1 ms event is still to be taken. -/
structure Filter where
  /-- the filtered level, `true` being HIGH -/
  level : Bool
  run : Nat
  due : Bool
  deriving DecidableEq, Repr

/-- One sample of a bridge as it is handed to the cycle logic (R65). -/
structure Sample where
  up : Nat
  un : Nat
  overRange : Bool
  deriving DecidableEq, Repr

/-- The values and flags of a phase that has ended (R85). -/
structure PhaseValues where
  up : Nat
  un : Nat
  overRange : Bool
  unsettled : Bool
  deriving DecidableEq, Repr

/-- A net's last result (R107, R88). -/
structure NetResult where
  outcome : CycleOutcome
  gp : Option Nat
  gn : Option Nat
  s1 : Option Nat
  s2 : Option Nat
  time : Uptime
  deriving DecidableEq, Repr

/-- A quiet period (R50). `expired` is the model's own field: the expiry of the quiet timer has been taken (R51). -/
structure QuietPeriod where
  start : Uptime
  length : Nat
  expired : Bool
  deriving DecidableEq, Repr

/-- The spacing of a rest (section 5.1). -/
structure Spacing where
  start : Uptime
  length : Nat
  deriving DecidableEq, Repr

/-- What the confirmation of a phase's switch captures (R82). -/
structure Confirmation where
  time : Uptime
  minDwell : Nat
  maxDwell : Nat
  epsilon : Nat
  deriving DecidableEq, Repr

/-- A net record (sections 3.1 and 5.1). Sets of ids are lists in ascending order. -/
structure Net where
  anchor : SegId
  members : List SegId
  bridges : List BridgeId
  supervision : Supervision
  state : NetState
  reason : Option Reason
  quiet : Option QuietPeriod
  startPending : Bool
  lastGranted : Option BridgeId
  grant : Option BridgeId
  cycleStart : Option Uptime
  phaseP : Option PhaseValues
  lastResult : Option NetResult
  covered : List SegId
  confirmation : Option Confirmation
  /-- the settle window, oldest sample first; empty while no window is held -/
  window : List Sample
  spacing : Option Spacing
  deriving DecidableEq, Repr

/-- The four factory trim words of a bridge (section 4.3). The gain words have 17 bits: the valid range of R62 reaches
72090, which 16 bits do not hold (assumption log 5). -/
structure Trim where
  refP : BitVec 16
  refN : BitVec 16
  gainP : BitVec 17
  gainN : BitVec 17
  deriving DecidableEq, Repr

/-- The reference conductances of a bridge, in pS (R100). -/
structure References where
  grP : Nat
  grN : Nat
  deriving DecidableEq, Repr

/-- A bridge record (section 4.2), its drive outputs and its senses as last sampled. -/
structure Bridge where
  state : BridgeState
  entryTime : Uptime
  phase : Phase
  crossing : Bool
  attached : Option SegId
  cause : Option FaultCause
  timeout : Nat
  watchP : Nat
  watchN : Nat
  up : Nat
  un : Nat
  overRange : Bool
  trim : Trim
  /-- the result of the last trim check, `true` being passed -/
  trimPassed : Bool
  references : Option References
  /-- DRV_P and DRV_N, `true` being on -/
  drvP : Bool
  drvN : Bool
  /-- SNS_P and SNS_N as last sampled, `true` being closed -/
  snsP : Bool
  snsN : Bool
  /-- the model's own field: a 1 ms sense sample has been taken in the present state (R69, R71) -/
  sampled : Bool
  deriving DecidableEq, Repr

/-- The eight timing parameters of SET TIMING, in its order (R166). -/
structure Timing where
  minDwell : Nat
  maxDwell : Nat
  epsilon : Nat
  spacing : Nat
  quiet : Nat
  debounce : Nat
  agreement : Nat
  lowVoltage : Nat
  deriving DecidableEq, Repr

/-- The response slot (R160). -/
structure Slot where
  status : Status
  code : Byte
  payload : List Byte
  deriving DecidableEq, Repr

/-- The serial command port (R155 to R160). -/
structure Port where
  /-- the level of CS_N, `true` being HIGH -/
  csHigh : Bool
  frameOpen : Bool
  /-- the receive buffer -/
  received : List Byte
  /-- the summary byte captured for the frame in progress -/
  summary : Option Byte
  slot : Slot
  /-- SDO: `none` at high impedance, else the bit driven at the opening of the frame -/
  sdo : Option Bool
  /-- the complete bytes SDO carried in the frame last closed, as the host counts them by rising edges (R155, R157) -/
  shiftedOut : List Byte
  deriving DecidableEq, Repr

/-- The state of the block, and the queue of the commands that wait. -/
structure State where
  /-- the queue of waiting commands, first in, first out -/
  pending : List Instr
  /-- the supply is valid -/
  supplyValid : Bool
  /-- the level of RESET_N, `true` being HIGH -/
  resetHigh : Bool
  uptime : Uptime
  /-- the segment table; `none` is a FREE record -/
  segs : Vector (Option Segment) 16
  /-- the link table; `none` is a FREE record -/
  links : Vector (Option Link) 24
  /-- the net records in ascending order of their anchors -/
  nets : List Net
  bridges : Vector Bridge 4
  /-- the contact filters of AUX0 to AUX11 -/
  aux : Vector Filter 12
  /-- the contact filters of EXT0 and EXT1 -/
  ext : Vector Filter 2
  timing : Timing
  devPending : BitVec 4
  devEnables : BitVec 4
  devRepeated : Bool
  port : Port
  /-- ALERT_N, `true` being asserted -/
  alert : Bool
  /-- FAULT_N, `true` being asserted -/
  faultLine : Bool
  deriving DecidableEq, Repr

/-! ## Reset -/

/-- The defaults of the timing parameters (R171). -/
def Timing.reset : Timing :=
  { minDwell := 200, maxDwell := 6000, epsilon := 6, spacing := 1000, quiet := 300, debounce := 10, agreement := 200,
    lowVoltage := 500 }

/-- The trim words the model's reset state holds. DESIGN CHOICE (assumption log 1, unsafe): factory words are a part's
own; these are the reference words of section 6.7 with unit gain. -/
def Trim.nominal : Trim := { refP := 20000#16, refN := 20000#16, gainP := 65536#17, gainN := 65536#17 }

/-- A bridge after a power-on reset that found the nominal trim words (R62, R79, R100). -/
def Bridge.reset : Bridge :=
  { state := .parked, entryTime := 0#32, phase := .p, crossing := false, attached := none, cause := none, timeout := 0,
    watchP := 0, watchN := 0, up := 0, un := 0, overRange := false, trim := Trim.nominal, trimPassed := true,
    references := some { grP := 5000000, grN := 5000000 }, drvP := false, drvN := false, snsP := false, snsN := false,
    sampled := false }

/-- The slot after a power-on or pin reset (R160). -/
def Slot.reset : Slot := { status := .nothing, code := 0x00#8, payload := [] }

/-- The port after a power-on reset with CS_N HIGH (R155, R160). -/
def Port.reset : Port :=
  { csHigh := true, frameOpen := false, received := [], summary := none, slot := Slot.reset, sdo := none,
    shiftedOut := [] }

/-- The part right after a power-on reset (R21, R38, R39, R60, R79, R98, R154, R160, R169), every contact line LOW
(DESIGN CHOICE, assumption log 2) and no command waiting. RESTARTED is pending and enabled, so ALERT_N is asserted. -/
def State.reset : State :=
  { pending := [], supplyValid := true, resetHigh := true, uptime := 0#32, segs := Vector.replicate 16 none,
    links := Vector.replicate 24 none, nets := [], bridges := Vector.replicate 4 Bridge.reset,
    aux := Vector.replicate 12 { level := false, run := 0, due := false },
    ext := Vector.replicate 2 { level := false, run := 0, due := false }, timing := Timing.reset,
    devPending := 0b0001#4, devEnables := 0b1111#4, devRepeated := false, port := Port.reset, alert := true,
    faultLine := false }

end Sys2Proof.Machine
end

