-- ==== Sys2Proof/Machine/Flags.lean ====
section
/-! DEFINITION. Accessors of the tables, the notice sets with their bits (R142, R143, R171), the conditions of the two
output lines (R140, R150) and the summary byte (R158). -/

namespace Sys2Proof.Machine

/-! ## Accessors -/

/-- The supply is valid and RESET_N is HIGH: outside every reset (R169). -/
def State.running (s : State) : Bool := s.supplyValid && s.resetHigh

/-- The segment record of an id; `none` when it is FREE (R1). -/
def State.seg (s : State) (x : SegId) : Option Segment := s.segs[x]

/-- The link record of an id; `none` when it is FREE (R22). -/
def State.link (s : State) (l : LinkId) : Option Link := s.links[l]

/-- The bridge record of a number (R61). -/
def State.bridge (s : State) (b : BridgeId) : Bridge := s.bridges[b]

/-- Every segment id in ascending order. -/
def allSegs : List SegId := [0, 1, 2, 3, 4, 5, 6, 7, 8, 9, 10, 11, 12, 13, 14, 15]

/-- Every link id in ascending order. -/
def allLinks : List LinkId := [0, 1, 2, 3, 4, 5, 6, 7, 8, 9, 10, 11, 12, 13, 14, 15, 16, 17, 18, 19, 20, 21, 22, 23]

/-- Every bridge number in ascending order. -/
def allBridges : List BridgeId := [0, 1, 2, 3]

/-- Replace one segment record. -/
def State.setSeg (s : State) (x : SegId) (r : Option Segment) : State := { s with segs := s.segs.set x r }

/-- Apply a change to every DEFINED segment record, by its id. A FREE record takes no write (R1). -/
def State.mapSegs (s : State) (f : SegId → Segment → Segment) : State :=
  { s with segs := Vector.ofFn fun x => (s.segs[x]).map (f x) }

/-- Apply a change to one segment record if it is DEFINED. -/
def State.modSeg (s : State) (x : SegId) (f : Segment → Segment) : State :=
  { s with segs := s.segs.set x ((s.segs[x]).map f) }

/-- Replace one link record. -/
def State.setLink (s : State) (l : LinkId) (r : Option Link) : State := { s with links := s.links.set l r }

/-- Apply a change to one bridge record. -/
def State.modBridge (s : State) (b : BridgeId) (f : Bridge → Bridge) : State :=
  { s with bridges := s.bridges.set b (f s.bridges[b]) }

/-- Apply a change to the net record with an anchor. -/
def State.modNet (s : State) (a : SegId) (f : Net → Net) : State :=
  { s with nets := s.nets.map fun n => if n.anchor = a then f n else n }

/-- The net record with an anchor. -/
def State.netAt (s : State) (a : SegId) : Option Net := s.nets.find? fun n => decide (n.anchor = a)

/-- The net whose member set contains a segment (section 1.1). -/
def State.netOf (s : State) (x : SegId) : Option Net := s.nets.find? fun n => n.members.contains x

/-! ## Notices -/

/-- The bit of a segment notice kind in the masks and pending sets (R171). -/
def SegNotice.bit : SegNotice → BitVec 8
  | .faultEnter => 0b10000000#8
  | .faultExit => 0b01000000#8
  | .warnEnter => 0b00100000#8
  | .warnExit => 0b00010000#8
  | .stale => 0b00001000#8
  | .netChange => 0b00000100#8
  | .spotDone => 0b00000010#8
  | .inconsistent => 0b00000001#8

/-- The bit of a device notice kind in the masks and pending sets (R171). -/
def DevNotice.bit : DevNotice → BitVec 4
  | .bridgeFault => 0b1000#4
  | .linkDisagree => 0b0100#4
  | .trimFault => 0b0010#4
  | .restarted => 0b0001#4

/-- A kind is in a segment's pending set. -/
def Segment.hasPending (g : Segment) (k : SegNotice) : Bool := g.pending &&& k.bit != 0#8

/-- A raise on a DEFINED segment: the kind joins the pending set, and the repeat flag is set if it was in it (R143). -/
def Segment.raise (g : Segment) (k : SegNotice) : Segment :=
  { g with pending := g.pending ||| k.bit, repeated := g.repeated || g.hasPending k }

/-- A raise on the device (R143). -/
def State.raiseDevice (s : State) (k : DevNotice) : State :=
  { s with devPending := s.devPending ||| k.bit, devRepeated := s.devRepeated || (s.devPending &&& k.bit != 0#4) }

/-! ## The output lines -/

/-- Some pending kind of the segment is enabled. -/
def Segment.alerts (g : Segment) : Bool := g.pending &&& g.enables != 0#8

/-- Some pending notice kind is enabled, on a DEFINED segment or on the device: the condition of ALERT_N and of bit 5 of
the summary byte (R150, R152). -/
def State.alertCondition (s : State) : Bool :=
  (allSegs.any fun x => (s.seg x).any Segment.alerts) || s.devPending &&& s.devEnables != 0#4

/-- The segment holds FAULT_N asserted: alarm FAULT with its drive-fault-line option set (R140). -/
def Segment.holdsFaultLine (g : Segment) : Bool := g.drive && g.alarm == .fault

/-- The condition of FAULT_N (R140). -/
def State.faultCondition (s : State) : Bool := allSegs.any fun x => (s.seg x).any Segment.holdsFaultLine

/-- The two lines at the end of an event. FAULT_N follows its condition at once (R140). ALERT_N follows its condition
outside an open frame and is frozen within one (R150, R151). In a reset both are released (R141, R154). -/
def State.refreshLines (s : State) : State :=
  if s.running then
    { s with faultLine := s.faultCondition, alert := if s.port.frameOpen then s.alert else s.alertCondition }
  else { s with faultLine := false, alert := false }

/-! ## The summary byte -/

/-- The code of an alarm (R171). -/
def Alarm.code : Alarm → Nat
  | .clear => 0
  | .warn => 1
  | .fault => 2

/-- The worst alarm among the DEFINED segments, as its code; CLEAR when none is DEFINED (R158). -/
def State.worstAlarm (s : State) : Nat :=
  allSegs.foldl (fun w x => max w (((s.seg x).map fun g => g.alarm.code).getD 0)) 0

/-- A flag as a number. -/
def flag (b : Bool) : Nat := if b then 1 else 0

/-- The status is OK or CLAMPED (R158, bit 4). -/
def Status.completed : Status → Bool
  | .ok | .clamped => true
  | _ => false

/-- The summary byte of the state as it stands (R158). -/
def State.summaryByte (s : State) : Byte :=
  BitVec.ofNat 8 <|
    64 * s.worstAlarm
    + 32 * flag s.alertCondition
    + 16 * flag s.port.slot.status.completed
    + 8 * flag (s.nets.any fun n => n.state == .quiet)
    + 4 * flag (allBridges.any fun b => (s.bridge b).state == .faulted)
    + 2 * flag (allSegs.any fun x => (s.seg x).any (·.stale))
    + flag (allLinks.any fun l => (s.link l).any (·.disagreeFlag))

end Sys2Proof.Machine
end

