-- ==== Sys2Proof/Machine/Insulation.lean ====
section
/-! DEFINITION. The exact integer arithmetic of the part: trim check and reference conductances (R62, R100), sample
conversion (R64), phase values (R85), the staged calculation (R99 to R107), the resistance conversion (R109), the
thresholds (R110, R111), and the clamps of the numeric parameters (R2, R31, R36, R52, R96, R108). -/

namespace Sys2Proof.Machine

/-- The quotient rounded half up: floor((n + floor(d / 2)) / d). -/
def divRound (n d : Nat) : Nat := (n + d / 2) / d

/-- A value clamped to a range. -/
def clampTo (lo hi v : Nat) : Nat := max lo (min hi v)

/-! ## Trim and samples -/

/-- A value lies in a closed range. -/
def inRange (lo hi v : Nat) : Bool := decide (lo ≤ v) && decide (v ≤ hi)

/-- The trim check of a bridge (R62). -/
def Trim.valid (t : Trim) : Bool :=
  inRange Config.refTrimMin Config.refTrimMax t.refP.toNat && inRange Config.refTrimMin Config.refTrimMax t.refN.toNat
    && inRange Config.gainTrimMin Config.gainTrimMax t.gainP.toNat
    && inRange Config.gainTrimMin Config.gainTrimMax t.gainN.toNat

/-- The reference conductance of a resistance word in units of 10 ohm, in pS (R100). -/
def referenceConductance (word : Nat) : Nat := (10 ^ 12 + word * 5) / (word * 10)

/-- The reference conductances of a bridge whose trim passes; none otherwise (R62, R100). -/
def Trim.references (t : Trim) : Option References :=
  if t.valid then
    some { grP := referenceConductance t.refP.toNat, grN := referenceConductance t.refN.toNat }
  else none

/-- The converted value of a code before its clamp, in dV (R64). -/
def convertRaw (code gain : Nat) : Nat := (code * gain + 131072) / 262144

/-- The converted value of a code, in dV (R64). -/
def convert (code gain : Nat) : Nat := min Config.maxVolts (convertRaw code gain)

/-- A channel is over-range: its code is 65535 or its value exceeded 16000 before the clamp (R65). -/
def channelOverRange (code gain : Nat) : Bool := code == 65535 || decide (Config.maxVolts < convertRaw code gain)

/-! ## Phase values -/

/-- The mean of a channel's window values (R85); over a window that does not hold eight samples the manual states no
value (assumption log 3). -/
def windowMean (vs : List Nat) : Nat :=
  if vs.length = Config.windowLength then (vs.sum + 4) / 8 else min Config.maxVolts (Config.shortWindowMean vs)

/-- The values and flags of a phase from its settle window (R85). -/
def phaseValues (w : List Sample) (unsettled : Bool) : PhaseValues :=
  { up := windowMean (w.map (·.up)), un := windowMean (w.map (·.un)), overRange := w.any (·.overRange),
    unsettled := unsettled }

/-- The largest of a list of values minus the smallest. -/
def span (vs : List Nat) : Nat :=
  match vs with
  | [] => 0
  | v :: rest => rest.foldl max v - rest.foldl min v

/-- The settle test (R84). -/
def settled (w : List Sample) (eps : Nat) : Bool :=
  decide (w.length = Config.windowLength) && decide (span (w.map (·.up)) ≤ eps) && decide (span (w.map (·.un)) ≤ eps)

/-- A sample joins the window as its newest entry; a full window discards its oldest (R84). -/
def pushSample (w : List Sample) (x : Sample) : List Sample :=
  (if w.length < Config.windowLength then w else w.drop (w.length + 1 - Config.windowLength)) ++ [x]

/-! ## The staged calculation -/

/-- What the calculator returns (R107). -/
structure CalcResult where
  outcome : CycleOutcome
  s1 : Option Nat
  s2 : Option Nat
  gp : Option Nat
  gn : Option Nat
  deriving DecidableEq, Repr

/-- The absolute difference of two values. -/
def absDiff (a b : Nat) : Nat := (a - b) + (b - a)

/-- Stages 5 to 7 for a positive determinant `d` (R105, R106). -/
def calculateQuotients (g : References) (p n : PhaseValues) (d : Nat) : CalcResult :=
  let gp := divRound (n.un * (p.up * g.grP + p.un * g.grN)) d
  let gn := divRound (p.up * (n.up * g.grP + n.un * g.grN)) d
  let saturated := decide (Config.gMax < gp) || decide (Config.gMax < gn)
  { outcome := if p.unsettled || n.unsettled || saturated then .degraded else .valid,
    s1 := some (p.up + p.un), s2 := some (n.up + n.un),
    gp := some (min Config.gMax gp), gn := some (min Config.gMax gn) }

/-- The seven stages on the values of phase P and phase N (R101 to R106), with the low-voltage limit held (R108). -/
def calculate (g : References) (limit : Nat) (p n : PhaseValues) : CalcResult :=
  let s1 := p.up + p.un
  let s2 := n.up + n.un
  let d : Int := (n.up * p.un : Nat) - (p.up * n.un : Nat)
  if p.overRange || n.overRange then
    { outcome := .overRange, s1 := none, s2 := none, gp := none, gn := none }
  else if s1 < limit || s2 < limit || s1 = 0 || s2 = 0 then
    { outcome := .lowVoltage, s1 := some s1, s2 := some s2, gp := none, gn := none }
  else if max s1 s2 < 8 * absDiff s1 s2 then
    { outcome := .unsteady, s1 := some s1, s2 := some s2, gp := none, gn := none }
  else if d ≤ 0 then
    { outcome := .indeterminate, s1 := some s1, s2 := some s2, gp := none, gn := none }
  else calculateQuotients g p n d.toNat

/-! ## Resistance and thresholds -/

/-- The resistance conversion, in kΩ (R109). -/
def resistance (g : Nat) : Nat := if g ≤ 10000 then 100000 else (10 ^ 9 + g / 2) / g

/-- The stored on value of a factor at a working voltage (R110, R5). -/
def onValue (factor vMax : Nat) : Nat := min Config.gMax (divRound (10 ^ 12) (factor * vMax))

/-- The off value of an on value (R111). -/
def offValue (on : Nat) : Nat := on - on / 8

/-- The four thresholds of a segment's declared properties (R5). -/
def thresholdsOf (vMax faultFactor warnFactor : Nat) : Thresholds :=
  { faultOn := onValue faultFactor vMax, faultOff := offValue (onValue faultFactor vMax),
    warnOn := onValue warnFactor vMax, warnOff := offValue (onValue warnFactor vMax) }

/-- G of a segment: the conductance of its weaker side (section 8.1). -/
def Segment.worse (g : Segment) : Nat := max g.gp g.gn

/-- The reported resistance R of a segment (R14). -/
def Segment.reported (g : Segment) : Nat := resistance g.worse

/-! ## Clamps -/

/-- The clamps of SET TIMING (R31, R36, R52, R96, R108); the max dwell against the clamped min dwell. -/
def Timing.clamp (t : Timing) : Timing :=
  let minDwell := clampTo 50 2000 t.minDwell
  { minDwell := minDwell, maxDwell := clampTo (minDwell + 100) 20000 t.maxDwell, epsilon := clampTo 1 200 t.epsilon,
    spacing := clampTo 0 60000 t.spacing, quiet := clampTo 50 5000 t.quiet, debounce := clampTo 1 100 t.debounce,
    agreement := clampTo 20 2000 t.agreement, lowVoltage := clampTo 100 2000 t.lowVoltage }

/-- The declared properties of a segment, as DEFINE SEGMENT and AMEND SEGMENT carry them (section 1.2). -/
structure Declared where
  vMax : Nat
  faultFactor : Nat
  warnFactor : Nat
  validity : Nat
  deriving DecidableEq, Repr

/-- The clamps of the four numeric parameters (R2); the warn factor against the clamped fault factor. -/
def Declared.clamp (d : Declared) : Declared :=
  let faultFactor := clampTo 50 2000 d.faultFactor
  { vMax := clampTo 100 1500 d.vMax, faultFactor := faultFactor, warnFactor := clampTo faultFactor 5000 d.warnFactor,
    validity := clampTo 1 65535 d.validity }

end Sys2Proof.Machine
end

