-- ==== Sys2Proof/Machine/Alarms.lean ====
section
/-! DEFINITION. The alarm evaluator (R127 to R139) and the writes of the attribution unit to one segment record
(R116 to R123). -/

namespace Sys2Proof.Machine

/-! ## Transitions -/

/-- The notices of a change of alarm (R132). -/
def transitionNotices : Alarm → Alarm → List SegNotice
  | .clear, .warn => [.warnEnter]
  | .clear, .fault => [.faultEnter]
  | .warn, .clear => [.warnExit]
  | .warn, .fault => [.warnExit, .faultEnter]
  | .fault, .warn => [.faultExit, .warnEnter]
  | .fault, .clear => [.faultExit]
  | .clear, .clear => []
  | .warn, .warn => []
  | .fault, .fault => []

/-- A change of alarm with its transition notices (R127, R132). -/
def Segment.setAlarm (g : Segment) (a : Alarm) : Segment :=
  (transitionNotices g.alarm a).foldl Segment.raise { g with alarm := a }

/-! ## Evaluation -/

/-- The table of R128 on a held alarm and G. -/
def alarmTable (t : Thresholds) (held : Alarm) (g : Nat) : Alarm :=
  match held with
  | .clear => if t.faultOn ≤ g then .fault else if t.warnOn ≤ g then .warn else .clear
  | .warn => if t.faultOn ≤ g then .fault else if g < t.warnOff then .clear else .warn
  | .fault => if g < t.faultOff then (if t.warnOff ≤ g then .warn else .clear) else .fault

/-- The warn comparator is enabled: WARN_ENTER or WARN_EXIT is among the enables (R129). -/
def warnComparator (enables : BitVec 8) : Bool := enables &&& (SegNotice.warnEnter.bit ||| SegNotice.warnExit.bit) != 0#8

/-- The table in force: with the comparator disabled every row that would give WARN gives CLEAR (R129). -/
def Segment.tableAlarm (g : Segment) : Alarm :=
  let a := alarmTable g.thresholds g.alarm g.worse
  if !warnComparator g.enables && a == .warn then .clear else a

/-- The segment is latched in FAULT (R133). -/
def Segment.latched (g : Segment) : Bool := g.latch && g.alarm == .fault

/-- The evaluator evaluates the record: it has a quality and is not externally supervised (R127). -/
def Segment.evaluable (g : Segment) : Bool := g.quality != .none && !g.ext

/-- An evaluation (R127, R128, R129, R133). -/
def Segment.evaluate (g : Segment) : Segment :=
  if g.evaluable && !g.latched then g.setAlarm g.tableAlarm else g

/-- The application of an external verdict (R137). -/
def Segment.applyVerdict (g : Segment) (v : Verdict) : Segment :=
  match v with
  | .fault => g.setAlarm .fault
  | .ok => if g.latched then g else g.setAlarm .clear

/-- The effect of a change of the warn enables on the alarm: the forced exit without a notice when the comparator is
disabled (R130), the evaluation of a CLEAR when it is enabled (R131). -/
def Segment.switchComparator (g : Segment) (before : BitVec 8) : Segment :=
  if warnComparator before && !warnComparator g.enables then
    (if g.alarm = .warn then { g with alarm := .clear } else g)
  else if !warnComparator before && warnComparator g.enables then
    (if g.alarm = .clear then g.evaluate else g)
  else g

/-! ## Staleness, spots and the writes of attribution -/

/-- The moment one validity after a reading (R11). -/
def expiryAfter (time : Uptime) (validity : Nat) : Uptime := time + BitVec.ofNat 32 (validity * 1000)

/-- Going stale (R12). -/
def Segment.goStale (g : Segment) : Segment := { g with stale := true, expiry := none }.raise .stale

/-- The uptime has reached the held expiry moment, by the modulo arithmetic of R13. -/
def Segment.expiryReached (g : Segment) (now : Uptime) : Bool :=
  match g.expiry with
  | none => false
  | some e => decide (elapsed e g.attrTime ≤ elapsed now g.attrTime)

/-- The answer of a spot check (R95). -/
def Segment.answerSpot (g : Segment) (o : CycleOutcome) : Segment :=
  { g with spot := none, lastSpot := some o }.raise .spotDone

/-- The low-water mark after a write of the held values with quality DIRECT or DERIVED (R15). -/
def Segment.lowerMark (g : Segment) : Segment :=
  { g with lowMark := some (match g.lowMark with | none => g.reported | some m => min m g.reported) }

/-- The common effects of a write or confirmation on the times and flags (R121). -/
def Segment.refresh (g : Segment) (now : Uptime) (degraded : Bool) : Segment :=
  { g with attrTime := now, stale := false, expiry := some (expiryAfter now g.validity), degraded := degraded }

/-- A write of values by attribution with quality `q`, its low-water mark and its evaluation (R121, R122, R123). -/
def Segment.writeValues (g : Segment) (now : Uptime) (degraded : Bool) (q : Quality) (gp gn : Nat) : Segment :=
  let w := { g with gp := gp, gn := gn, quality := q }.refresh now degraded
  (if q = .direct ∨ q = .derived then w.lowerMark else w).evaluate

/-- A confirmation and its evaluation (R118, R121, R123). -/
def Segment.confirm (g : Segment) (now : Uptime) (degraded : Bool) : Segment := (g.refresh now degraded).evaluate

end Sys2Proof.Machine
end

