-- ==== Sys2Proof/Machine/Switches.lean ====
section
/-! DEFINITION. The state machine of one bridge: its entries, the commands of the cycle logic (R68), the 1 ms sense
sample (R66, R69 to R74) and the conditions under which its confirmations and faults are due. -/

namespace Sys2Proof.Machine

/-- Every change of state sets the state entry time and both watch counts to 0 (R61, R70). -/
def Bridge.enter (b : Bridge) (st : BridgeState) (now : Uptime) : Bridge :=
  { b with state := st, entryTime := now, watchP := 0, watchN := 0, sampled := false }

/-- Entry into CLOSING on a side: its drive on, the other off, the timeout count 0 (R69). -/
def Bridge.enterClosing (b : Bridge) (side : Phase) (now : Uptime) : Bridge :=
  { b.enter .closing now with phase := side, crossing := false, timeout := 0, drvP := side == .p, drvN := side == .n }

/-- Entry into OPENING: both drives off, the timeout count 0 (R71). -/
def Bridge.enterOpening (b : Bridge) (crossing : Bool) (now : Uptime) : Bridge :=
  { b.enter .opening now with crossing := crossing, timeout := 0, drvP := false, drvN := false }

/-- Entry into PARKED, both drives off (R71). -/
def Bridge.enterParked (b : Bridge) (now : Uptime) : Bridge :=
  { b.enter .parked now with crossing := false, drvP := false, drvN := false }

/-- Entry into FAULTED with a cause: drives off, crossing flag and counts cleared (R73). -/
def Bridge.enterFaulted (b : Bridge) (c : FaultCause) (now : Uptime) : Bridge :=
  { b.enter .faulted now with crossing := false, timeout := 0, cause := some c, drvP := false, drvN := false }

/-- CLOSE P (R68). If a stuck sample of the side being closed is still to be taken in this millisecond, it confirms the
switch at once (R72): it counts as a sample taken in CLOSING. -/
def Bridge.closeP (b : Bridge) (now : Uptime) : Bridge :=
  if b.state = .parked then
    { b.enterClosing .p now with sampled := decide (Config.watchLength ≤ b.watchP) && b.snsP }
  else b

/-- CROSS (R68). -/
def Bridge.cross (b : Bridge) (now : Uptime) : Bridge :=
  if (b.state = .dwell ∨ b.state = .settling) ∧ b.phase = .p then b.enterOpening true now else b

/-- OPEN (R68). -/
def Bridge.openSwitches (b : Bridge) (now : Uptime) : Bridge :=
  match b.state with
  | .closing | .dwell | .settling => b.enterOpening false now
  | .opening => { b with crossing := false }
  | .parked | .faulted => b

/-- The end of the min dwell (R68, R83). -/
def Bridge.endDwell (b : Bridge) (now : Uptime) : Bridge := if b.state = .dwell then b.enter .settling now else b

/-! ## The 1 ms sense sample -/

/-- One more sample on a count that runs to 20. -/
def countUp (n : Nat) : Nat := min Config.watchLength (n + 1)

/-- A watch count after a sample: one more at the wrong state, 0 at the expected one (R70). -/
def watch (wrong : Bool) (n : Nat) : Nat := if wrong then countUp n else 0

/-- The sense of the bridge's phase as last sampled. -/
def Bridge.phaseSense (b : Bridge) : Bool := match b.phase with | .p => b.snsP | .n => b.snsN

/-- The watch count of the bridge's own side. -/
def Bridge.ownWatch (b : Bridge) : Nat := match b.phase with | .p => b.watchP | .n => b.watchN

/-- The watch count of the opposite side. -/
def Bridge.oppositeWatch (b : Bridge) : Nat := match b.phase with | .p => b.watchN | .n => b.watchP

/-- Either watch count has reached 20. -/
def Bridge.anyWatchFull (b : Bridge) : Bool :=
  decide (Config.watchLength ≤ b.watchP) || decide (Config.watchLength ≤ b.watchN)

/-- The 1 ms sample of both senses (R66): it is stored, and advances the timeout count of CLOSING (R69) and OPENING
(R71) and the watch counts of CLOSING, DWELL and SETTLING (R70), PARKED (R72) and FAULTED for a timeout (R74). -/
def Bridge.sense (b : Bridge) (p n : Bool) : Bridge :=
  let b := { b with snsP := p, snsN := n, sampled := true }
  match b.state with
  | .closing =>
    match b.phase with
    | .p => { b with timeout := if p then b.timeout else countUp b.timeout, watchN := watch n b.watchN }
    | .n => { b with timeout := if n then b.timeout else countUp b.timeout, watchP := watch p b.watchP }
  | .dwell | .settling =>
    match b.phase with
    | .p => { b with watchP := watch (!p) b.watchP, watchN := watch n b.watchN }
    | .n => { b with watchP := watch p b.watchP, watchN := watch (!n) b.watchN }
  | .opening => { b with timeout := if !p && !n then b.timeout else countUp b.timeout }
  | .parked => { b with watchP := watch p b.watchP, watchN := watch n b.watchN }
  | .faulted =>
    if b.cause = some .closeTimeout ∨ b.cause = some .openTimeout then
      { b with watchP := watch p b.watchP, watchN := watch n b.watchN }
    else b

/-! ## Which event of the bridge is due -/

/-- A sample in CLOSING reads the sense of the phase closed (R69). -/
def Bridge.closeConfirmed (b : Bridge) : Bool :=
  b.state == .closing && b.sampled && b.phaseSense && decide (b.timeout < Config.watchLength)

/-- The twentieth sample in CLOSING has not read the sense of the phase closed (R69). -/
def Bridge.closeTimedOut (b : Bridge) : Bool := b.state == .closing && decide (Config.watchLength ≤ b.timeout)

/-- A sample in OPENING reads both senses open (R71). -/
def Bridge.openConfirmed (b : Bridge) : Bool :=
  b.state == .opening && b.sampled && !b.snsP && !b.snsN && decide (b.timeout < Config.watchLength)

/-- The twentieth sample in OPENING has not read both senses open (R71). -/
def Bridge.openTimedOut (b : Bridge) : Bool := b.state == .opening && decide (Config.watchLength ≤ b.timeout)

/-- The closed switch has dropped out for 20 samples (R70). -/
def Bridge.droppedOut (b : Bridge) : Bool :=
  (b.state == .dwell || b.state == .settling) && decide (Config.watchLength ≤ b.ownWatch)

/-- The opposite side has read closed for 20 samples (R70). -/
def Bridge.oppositeStuck (b : Bridge) : Bool :=
  (b.state == .closing || b.state == .dwell || b.state == .settling) && decide (Config.watchLength ≤ b.oppositeWatch)

/-- A sense of a PARKED bridge has read closed for 20 samples (R72). -/
def Bridge.parkedStuck (b : Bridge) : Bool := b.state == .parked && b.anyWatchFull

/-- A sense of a bridge FAULTED for a timeout has read closed for 20 samples (R74). -/
def Bridge.escalates (b : Bridge) : Bool :=
  b.state == .faulted && (b.cause == some .closeTimeout || b.cause == some .openTimeout) && b.anyWatchFull

/-! ## Samples of the dividers and resets -/

/-- The conversion of a sample event (R64, R65). -/
def Bridge.takeSample (b : Bridge) (codeP codeN : BitVec 16) : Bridge :=
  { b with up := convert codeP.toNat b.trim.gainP.toNat, un := convert codeN.toNat b.trim.gainN.toNat,
           overRange := channelOverRange codeP.toNat b.trim.gainP.toNat
             || channelOverRange codeN.toNat b.trim.gainN.toNat }

/-- The latest sample of the bridge as it is handed on (R65). -/
def Bridge.sample (b : Bridge) : Sample := { up := b.up, un := b.un, overRange := b.overRange }

/-- A bridge after a power-on or pin reset: the trim words are checked (R62), the reference conductances formed (R100),
and it is PARKED, or FAULTED with cause TRIM (R79). The phase of a bridge FAULTED with cause TRIM is a DESIGN CHOICE. -/
def Bridge.powerUp (b : Bridge) : Bridge :=
  { state := if b.trim.valid then .parked else .faulted, entryTime := 0#32, phase := .p, crossing := false,
    attached := none, cause := if b.trim.valid then none else some .trim, timeout := 0, watchP := 0, watchN := 0,
    up := 0, un := 0, overRange := false, trim := b.trim, trimPassed := b.trim.valid, references := b.trim.references,
    drvP := false, drvN := false, snsP := false, snsN := false, sampled := false }

/-- A bridge after RESTART: detached, drives off, PARKED unless its last trim check failed (R63, R79); the trim check,
the reference conductances and the senses last sampled are kept. The state entry time of a bridge that stays FAULTED
with cause TRIM is kept, since its state does not change (R61). -/
def Bridge.restart (b : Bridge) (now : Uptime) : Bridge :=
  { state := if b.trimPassed then .parked else .faulted, entryTime := if b.trimPassed then now else b.entryTime,
    phase := .p, crossing := false, attached := none, cause := if b.trimPassed then none else some .trim, timeout := 0,
    watchP := 0, watchN := 0, up := 0, un := 0, overRange := false, trim := b.trim, trimPassed := b.trimPassed,
    references := b.references, drvP := false, drvN := false, snsP := b.snsP, snsN := b.snsN, sampled := false }

end Sys2Proof.Machine
end

