-- ==== Sys2Proof/Machine/Nets.lean ====
section
/-! DEFINITION. The net resolver: connected components (R41, R43), supervision (R48), external verdicts (R54), the grant
arbiter (R57, R58), the tests that end a quiet period (R51), and the recompute of a topology event (R42 to R47). -/

namespace Sys2Proof.Machine

/-! ## Components -/

/-- The link is DEFINED, effectively CLOSED, and joins two DEFINED segments (R41). -/
def State.joins (s : State) (l : Link) : Bool :=
  l.effective == .closed && (s.seg l.endA).isSome && (s.seg l.endB).isSome

/-- Give the two components that a link joins one label, the smaller of the two. -/
def mergeLabels (v : Vector SegId 16) (a b : SegId) : Vector SegId 16 :=
  Vector.ofFn fun x => if v[x] = max v[a] v[b] then min v[a] v[b] else v[x]

/-- The label of every segment: the lowest id of its component (R41). -/
def State.labels (s : State) : Vector SegId 16 :=
  allLinks.foldl
    (fun v i =>
      match s.link i with
      | some l => if s.joins l then mergeLabels v l.endA l.endB else v
      | none => v)
    (Vector.ofFn id)

/-- The member set of the component of a label. -/
def State.component (s : State) (v : Vector SegId 16) (a : SegId) : List SegId :=
  allSegs.filter fun x => (s.seg x).isSome && decide (v[x] = a)

/-- The connected components of the DEFINED segments, in ascending order of their lowest ids (R43). -/
def State.components (s : State) : List (List SegId) :=
  let v := s.labels
  (allSegs.filter fun a => (s.seg a).isSome && decide (v[a] = a)).map (s.component v)

/-! ## Supervision and verdicts -/

/-- The bridge set: the bridges attached to the members, whatever their states (R43). -/
def State.bridgeSet (s : State) (members : List SegId) : List BridgeId :=
  allBridges.filter fun b => (s.bridge b).attached.any members.contains

/-- The source of a segment is one of the four EXT values. -/
def Source.isExternal : Source → Bool
  | .own => false
  | .ext0 | .ext0Inv | .ext1 | .ext1Inv => true

/-- The supervision of a net and its reason (R48). -/
def State.supervise (s : State) (members : List SegId) (bridges : List BridgeId) : Supervision × Option Reason :=
  if members.any fun x => (s.seg x).any fun g => g.source.isExternal then (.external, none)
  else if bridges.any fun b => (s.bridge b).state == .faulted && (s.bridge b).cause == some .stuck then
    (.none, some .stuckBridge)
  else if bridges.any fun b => (s.bridge b).state != .faulted then (.own, none)
  else if bridges ≠ [] then (.none, some .allFaulted)
  else (.none, some .noBridge)

/-- The line a source selects (R54). -/
def Source.line : Source → Option ExtLine
  | .own => none
  | .ext0 | .ext0Inv => some 0
  | .ext1 | .ext1Inv => some 1

/-- The selected line of a source reads fault at the filtered levels of EXT0 and EXT1 (R54). -/
def Source.readsFault (level0 level1 : Bool) : Source → Bool
  | .own => false
  | .ext0 => !level0
  | .ext0Inv => level0
  | .ext1 => !level1
  | .ext1Inv => level1

/-- The verdict of an EXTERNAL net with these members (R54). -/
def State.verdict (s : State) (members : List SegId) : Verdict :=
  if members.any fun x => (s.seg x).any fun g => g.source.readsFault (s.ext[0]).level (s.ext[1]).level then .fault else .ok

/-! ## Net records -/

/-- A cycle is in progress (R40). -/
def Net.inProgress (n : Net) : Bool := n.state == .phaseP || n.state == .phaseN

/-- The fields of a cycle are discarded (R80). -/
def Net.dropCycle (n : Net) : Net :=
  { n with cycleStart := none, phaseP := none, covered := [], confirmation := none, window := [] }

/-- A last result with all four values absent (R91, R92). -/
def endingResult (o : CycleOutcome) (now : Uptime) : NetResult :=
  { outcome := o, gp := none, gn := none, s1 := none, s2 := none, time := now }

/-- A cycle in progress ends without a calculation; a net with none in progress keeps its last result (R91, R92). -/
def Net.endCycle (n : Net) (o : CycleOutcome) (now : Uptime) : Net :=
  if n.inProgress then { n.dropCycle with lastResult := some (endingResult o now) } else n.dropCycle

/-- Between cycles a net has no grant, no rest, no quiet period and no pending start; the caller sets what its state
holds. -/
def Net.idle (n : Net) : Net :=
  { n.dropCycle with grant := none, spacing := none, quiet := none, startPending := false, reason := none }

/-- Entry into QUIET (R50). -/
def Net.enterQuiet (n : Net) (now : Uptime) (length : Nat) : Net :=
  { n.idle with supervision := .own, state := .quiet,
                quiet := some { start := now, length := length, expired := false } }

/-- Entry into EXTERNAL (R53). -/
def Net.enterExternal (n : Net) : Net := { n.idle with supervision := .external, state := .external }

/-- Entry into UNMEASURABLE with its reason (R49). -/
def Net.enterUnmeasurable (n : Net) (r : Option Reason) : Net :=
  { n.idle with supervision := .none, state := .unmeasurable, reason := r }

/-- A net record before its state is entered: no last-granted bridge, no grant, no cycle and no last result (R44). -/
def Net.blank (anchor : SegId) (members : List SegId) (bridges : List BridgeId) : Net :=
  { anchor := anchor, members := members, bridges := bridges, supervision := .none, state := .unmeasurable,
    reason := none, quiet := none, startPending := false, lastGranted := none, grant := none, cycleStart := none,
    phaseP := none, lastResult := none, covered := [], confirmation := none, window := [], spacing := none }

/-- Enter the state a decided supervision gives a net that does not keep its own. -/
def Net.enterBy (n : Net) (d : Supervision × Option Reason) (now : Uptime) (quietTime : Nat) : Net :=
  match d.1 with
  | .own => n.enterQuiet now quietTime
  | .external => n.enterExternal
  | .none => n.enterUnmeasurable d.2

/-- What a recompute makes of one component: its record, the bridge whose grant it takes away, the covered spots it
answers with BRIDGE_FAULT, and whether the net is new. -/
structure Derived where
  net : Net
  released : Option BridgeId
  faultSpots : List SegId
  fresh : Bool
  deriving DecidableEq, Repr

/-- A carried net that loses its grant by this ending (R45, R91, R92): only BRIDGE_FAULT answers the covered spots. -/
def Net.lose (n : Net) (o : CycleOutcome) (d : Supervision × Option Reason) (now : Uptime) (quietTime : Nat) : Derived :=
  { net := (n.endCycle o now).enterBy d now quietTime, released := n.grant,
    faultSpots := if n.inProgress ∧ o = .bridgeFault then n.covered else [], fresh := false }

/-- A carried net after the recompute, by the table of R45. `faulted` tells which bridges are FAULTED. -/
def Net.carry (n : Net) (bridges : List BridgeId) (d : Supervision × Option Reason) (faulted : BridgeId → Bool)
    (now : Uptime) (quietTime : Nat) : Derived :=
  let m := { n with bridges := bridges }
  let grantFaulted := n.grant.any faulted
  match n.supervision, d.1 with
  | .own, .own =>
    match n.grant with
    | none => { net := m, released := none, faultSpots := [], fresh := false }
    | some b =>
      if !bridges.contains b then m.lose .abandoned d now quietTime
      else if faulted b then m.lose .bridgeFault d now quietTime
      else { net := m, released := none, faultSpots := [], fresh := false }
  | .own, .external => m.lose .abandoned d now quietTime
  | .own, .none => m.lose (if grantFaulted then .bridgeFault else .abandoned) d now quietTime
  | .external, _ | .none, _ =>
    { net := m.enterBy d now quietTime, released := none, faultSpots := [], fresh := false }

/-- The record of a component after the recompute: the carried record of the held net with the same member set, or a new
one (R43, R44, R45). -/
def State.derive (s : State) (members : List SegId) : Derived :=
  let bridges := s.bridgeSet members
  let d := s.supervise members bridges
  match s.nets.find? fun n => decide (n.members = members) with
  | some n => n.carry bridges d (fun b => (s.bridge b).state == .faulted) s.uptime s.timing.quiet
  | none =>
    { net := (Net.blank (members.headD 0) members bridges).enterBy d s.uptime s.timing.quiet, released := none,
      faultSpots := [], fresh := true }

/-! ## The grant -/

/-- The bridges in ascending order after the last-granted one, wrapping from 3 to 0 (R57). -/
def rotation (last : Option BridgeId) : List BridgeId :=
  match last with
  | none => allBridges
  | some l => allBridges.filter (fun b => decide (l < b)) ++ allBridges.filter (fun b => decide (b ≤ l))

/-- The bridge a cycle start would be granted to (R57). -/
def State.nextBridge (s : State) (n : Net) : Option BridgeId :=
  (rotation n.lastGranted).find? fun b => n.bridges.contains b && (s.bridge b).state == .parked

/-- The spot-pending flag of a segment is set. -/
def State.spotPending (s : State) (x : SegId) : Bool := (s.seg x).any fun g => g.spot.isSome

/-- The net record at the grant of a cycle to a bridge (R57, R80, R81). -/
def Net.granted (n : Net) (b : BridgeId) (covered : List SegId) (now : Uptime) : Net :=
  { n.idle with supervision := n.supervision, state := .phaseP, lastGranted := some b, grant := some b,
                cycleStart := some now, covered := covered }

/-- A cycle of the net with this anchor is to start (R57, R81). With no PARKED bridge in its set a net in REST keeps its
start pending and its spacing is discarded (R58, R90). -/
def State.startCycle (s : State) (a : SegId) : State :=
  match s.netAt a with
  | none => s
  | some n =>
    match s.nextBridge n with
    | some b => (s.modNet a fun m => m.granted b (m.members.filter s.spotPending) s.uptime).modBridge b (·.closeP s.uptime)
    | none => s.modNet a fun m => if m.state = .rest then { m with startPending := true, spacing := none } else m

/-- Every bridge of the set is PARKED or FAULTED (R51). -/
def State.bridgesSettled (s : State) (n : Net) : Bool :=
  n.bridges.all fun b => (s.bridge b).state == .parked || (s.bridge b).state == .faulted

/-- The quiet timer has expired: its expiry has been taken, or its millisecond has passed (R51). In the millisecond of
the expiry itself the timer counts as running until the expiry is taken. -/
def QuietPeriod.over (q : QuietPeriod) (now : Uptime) : Bool := q.expired || decide (q.length < elapsed now q.start)

/-- The two conditions that end QUIET (R51). -/
def State.quietOver (s : State) (n : Net) : Bool :=
  n.state == .quiet && n.quiet.any (·.over s.uptime) && s.bridgesSettled n

/-- The tests of a net that waits: for the end of QUIET (R51), or with its start pending for a PARKED bridge (R58). -/
def State.testWaiting (s : State) (a : SegId) : State :=
  match s.netAt a with
  | none => s
  | some n =>
    if s.quietOver n || (n.state == .rest && n.startPending && (s.nextBridge n).isSome) then s.startCycle a else s

/-! ## The recompute -/

/-- The current grant, if any, is commanded to open (R44, R45). -/
def State.release (s : State) (grant : Option BridgeId) : State :=
  match grant with
  | some b => s.modBridge b (·.openSwitches s.uptime)
  | none => s

/-- The segments of a list have their spots answered with an outcome (R95). -/
def State.answerSpots (s : State) (xs : List SegId) (o : CycleOutcome) : State :=
  s.mapSegs fun x g => if xs.contains x then g.answerSpot o else g

/-- NET_CHANGE on the members of every new net (R46). -/
def State.raiseNetChange (s : State) (ds : List Derived) : State :=
  s.mapSegs fun x g => if ds.any (fun d => d.fresh && d.net.members.contains x) then g.raise .netChange else g

/-- A segment after the recompute, by the state of its net: the externally-supervised flag (R53), the answer of its
pending spot (R47), and the external verdict (R54, R137). -/
def Segment.settleIn (g : Segment) (st : NetState) (v : Verdict) : Segment :=
  let flagged := { g with ext := st == .external }
  match st with
  | .external => (if g.spot.isSome then flagged.answerSpot .external else flagged).applyVerdict v
  | .unmeasurable => if g.spot.isSome then flagged.answerSpot .noMeasurement else flagged
  | .quiet | .rest | .phaseP | .phaseN | .release => flagged

/-- Every segment settles in its net (R47, R53, R54). -/
def State.settleSegments (s : State) : State :=
  s.mapSegs fun x g =>
    match s.netOf x with
    | some n => g.settleIn n.state (s.verdict n.members)
    | none => g

/-- Every grant of a list is commanded to open (R44, R45). -/
def State.releaseAll (s : State) (grants : List (Option BridgeId)) : State := grants.foldl State.release s

/-- The covered spots of every carried net whose cycle ended with BRIDGE_FAULT are answered with it (R92, R95). -/
def State.answerFaults (s : State) (ds : List Derived) : State :=
  ds.foldl (fun t d => t.answerSpots d.faultSpots .bridgeFault) s

/-- The former nets of a recompute: the held records whose member set matches no component (R43). -/
def State.formerNets (s : State) : List Net := s.nets.filter fun n => !s.components.contains n.members

/-- What the recompute makes of every component, in ascending order of the anchors (R43). -/
def State.derivedNets (s : State) : List Derived := s.components.map s.derive

/-- The nets are derived afresh; the grants of former nets and those taken from carried nets are opened, the spots that a
BRIDGE_FAULT answers are answered, and NET_CHANGE is raised (R43 to R46, R92). -/
def State.replaceNets (s : State) : State :=
  (((({ s with nets := s.derivedNets.map (·.net) } : State).releaseAll (s.formerNets.map (·.grant))).releaseAll
    (s.derivedNets.map (·.released))).answerFaults s.derivedNets).raiseNetChange s.derivedNets

/-- The recompute of a topology event (R42 to R47, R51, R53, R54, R58). -/
def State.recompute (s : State) : State :=
  let carried := (s.derivedNets.filter fun d => !d.fresh).map (·.net.anchor)
  carried.foldl State.testWaiting s.replaceNets.settleSegments

/-! ## Bridge events that reach the nets -/

/-- A bridge enters FAULTED with a cause other than TRIM (R73): BRIDGE_FAULT is raised and the recompute runs. -/
def State.faultBridge (s : State) (b : BridgeId) (c : FaultCause) : State :=
  ((s.modBridge b (·.enterFaulted c s.uptime)).raiseDevice .bridgeFault).recompute

/-- The net that holds a bridge's attached segment (R65). -/
def State.netOfBridge (s : State) (b : BridgeId) : Option Net := (s.bridge b).attached.bind s.netOf

/-- The net takes the end of RELEASE (R89, R90): REST, and its next cycle at once if a spot waits or the spacing is 0. -/
def State.endRelease (s : State) (a : SegId) : State :=
  let t := s.modNet a fun n =>
    { n.idle with supervision := n.supervision, state := .rest,
                  spacing := some { start := s.uptime, length := s.timing.spacing } }
  match s.netAt a with
  | none => t
  | some n => if n.members.any s.spotPending || s.timing.spacing = 0 then t.startCycle a else t

/-- The arrival of a bridge at PARKED is reported to its net (R71): the end of RELEASE, or the tests of a net that
waits. -/
def State.reportParked (s : State) (b : BridgeId) : State :=
  match s.netOfBridge b with
  | none => s
  | some n => if n.state = .release ∧ n.grant = some b then s.endRelease n.anchor else s.testWaiting n.anchor

end Sys2Proof.Machine
end

