-- ==== Sys2Proof/Machine/Cycles.lean ====
section
/-! DEFINITION. The cycle logic of a net (R82 to R95) and the attribution unit (R112 to R123). -/

namespace Sys2Proof.Machine

/-! ## Attribution -/

/-- The record takes part in the known set: quality DIRECT or DERIVED and not stale (R113). -/
def Segment.known (g : Segment) : Bool := (g.quality == .direct || g.quality == .derived) && !g.stale

/-- A member is in the known set (R113). -/
def State.known (s : State) (x : SegId) : Bool := (s.seg x).any Segment.known

/-- The tolerance of a polarity (R114). -/
def tolerance (net : Nat) : Nat := max (net / 8) 50000

/-- The known sum of a polarity over the known members (R114). -/
def State.knownSum (s : State) (members : List SegId) (f : Segment → Nat) : Nat :=
  ((members.filter s.known).map fun x => ((s.seg x).map f).getD 0).sum

/-- The case of a completion (R115). -/
inductive AttributionCase where
  /-- the single member takes the net values (R116) -/
  | direct
  /-- the one unknown member takes what remains (R117) -/
  | derived (member : SegId) (gp gn : Nat)
  /-- every member is confirmed (R118) -/
  | confirmation
  /-- every unknown member takes the net values (R119) -/
  | shared
  /-- every member is demoted to the net values (R120) -/
  | inconsistent
  deriving DecidableEq, Repr

/-- The case selected from the member records on entry (R113, R114, R115). -/
def State.attributionCase (s : State) (members : List SegId) (gp gn : Nat) : AttributionCase :=
  let sumP := s.knownSum members (·.gp)
  let sumN := s.knownSum members (·.gn)
  if members.length = 1 then .direct
  else
    match members.filter fun x => !s.known x with
    | [] =>
      if absDiff gp sumP ≤ tolerance gp ∧ absDiff gn sumN ≤ tolerance gn then .confirmation else .inconsistent
    | [u] =>
      if sumP ≤ gp + tolerance gp ∧ sumN ≤ gn + tolerance gn then .derived u (gp - sumP) (gn - sumN) else .inconsistent
    | _ :: _ :: _ => .shared

/-- The write of a case to one member (R116 to R121). `known` tells whether the member was in the known set on entry. -/
def AttributionCase.write (c : AttributionCase) (x : SegId) (known : Bool) (now : Uptime) (degraded : Bool)
    (gp gn : Nat) (g : Segment) : Segment :=
  match c with
  | .direct => g.writeValues now degraded .direct gp gn
  | .derived u p n => if x = u then g.writeValues now degraded .derived p n else g
  | .confirmation => g.confirm now degraded
  | .shared => if known then g else g.writeValues now degraded .shared gp gn
  | .inconsistent => (g.writeValues now degraded .shared gp gn).raise .inconsistent

/-- Attribution of a net result to the members (R112). Every decision is made from the records on entry. -/
def State.attribute (s : State) (members : List SegId) (degraded : Bool) (gp gn : Nat) : State :=
  let c := s.attributionCase members gp gn
  s.mapSegs fun x g => if members.contains x then c.write x (s.known x) s.uptime degraded gp gn g else g

/-! ## Phases -/

/-- The result is handed to attribution (R107). -/
def CycleOutcome.attributed : CycleOutcome → Bool
  | .valid | .degraded => true
  | .overRange | .lowVoltage | .unsteady | .indeterminate | .abandoned | .bridgeFault | .noMeasurement | .external => false

/-- The record of a completed cycle as the net's last result (R88). -/
def CalcResult.toResult (r : CalcResult) (now : Uptime) : NetResult :=
  { outcome := r.outcome, gp := r.gp, gn := r.gn, s1 := r.s1, s2 := r.s2, time := now }

/-- The net record after the completion of its cycle: RELEASE, holding its grant and the cycle start (R80, R88). -/
def Net.completed (n : Net) (r : NetResult) : Net :=
  { n with state := .release, lastResult := some r, phaseP := none, covered := [], confirmation := none, window := [] }

/-- The completion of a cycle (R88): OPEN, the calculation, the last result, the attribution, the answers of the covered
spots, and RELEASE. -/
def State.complete (s : State) (n : Net) (b : BridgeId) (g : References) (p v : PhaseValues) : State :=
  let r := calculate g s.timing.lowVoltage p v
  let t := (s.modBridge b (·.openSwitches s.uptime)).modNet n.anchor (·.completed (r.toResult s.uptime))
  let t :=
    if r.outcome.attributed then
      t.attribute n.members (r.outcome == .degraded) (r.gp.getD 0) (r.gn.getD 0)
    else t
  t.answerSpots n.covered r.outcome

/-- The end of phase P: its values are kept and the bridge is told to cross (R87). -/
def State.crossOver (s : State) (n : Net) (b : BridgeId) (v : PhaseValues) : State :=
  (s.modNet n.anchor fun m =>
    { m with state := .phaseN, phaseP := some v, confirmation := none, window := [] }).modBridge b (·.cross s.uptime)

/-- The end of the phase a net is in, over its settle window (R85 to R88). A granted bridge always holds reference
conductances, and a net in PHASE_N phase-P values (R99, R87); a record without them has no phase to end. -/
def State.endPhase (s : State) (n : Net) (unsettled : Bool) : State :=
  match n.state, n.grant with
  | .phaseP, some b => s.crossOver n b (phaseValues n.window unsettled)
  | .phaseN, some b =>
    match n.phaseP, (s.bridge b).references with
    | some p, some g => s.complete n b g p (phaseValues n.window unsettled)
    | _, _ => s
  | _, _ => s

/-- A sample handed to the cycle logic of the net that granted the bridge (R65, R84). -/
def State.handSample (s : State) (b : BridgeId) (x : Sample) : State :=
  match s.netOfBridge b with
  | none => s
  | some n =>
    match n.confirmation with
    | none => s
    | some c =>
      if n.inProgress ∧ n.grant = some b then
        let w := pushSample n.window x
        let t := s.modNet n.anchor fun m => { m with window := w }
        if settled w c.epsilon then t.endPhase { n with window := w } false else t
      else s

/-- The confirmation of the phase's switch reported to the net that granted the bridge (R69, R82). -/
def State.reportConfirmation (s : State) (b : BridgeId) : State :=
  match s.netOfBridge b with
  | none => s
  | some n =>
    if n.inProgress ∧ n.grant = some b then
      s.modNet n.anchor fun m =>
        { m with confirmation := some { time := s.uptime, minDwell := s.timing.minDwell, maxDwell := s.timing.maxDwell,
                                        epsilon := s.timing.epsilon },
                 window := [] }
    else s

/-- The phase's dwell timer has reached the captured min dwell (R82, R83). -/
def Confirmation.dwellOver (c : Confirmation) (now : Uptime) : Bool := decide (c.minDwell ≤ elapsed now c.time)

/-- The phase's max-dwell timer has reached the captured max dwell (R82, R86). -/
def Confirmation.maxDwellOver (c : Confirmation) (now : Uptime) : Bool := decide (c.maxDwell ≤ elapsed now c.time)

end Sys2Proof.Machine
end

