-- ==== Sys2Proof/Machine/Operands.lean ====
section
/-! DEFINITION. The operand forms of a frame (R156, R171): bytes, big-endian words, and the targets of the commands. -/

namespace Sys2Proof.Machine

/-- A stored byte of the receive buffer. -/
def byteAt (buf : List Byte) (i : Nat) : Byte := buf.getD i 0#8

/-- A big-endian 16-bit field of the receive buffer. -/
def wordAt (buf : List Byte) (i : Nat) : Nat := 256 * (byteAt buf i).toNat + (byteAt buf (i + 1)).toNat

/-- A byte that names a segment, 0 to 15. -/
def segOfByte (t : Byte) : Option SegId := if h : t.toNat < 16 then some ⟨t.toNat, h⟩ else none

/-- A byte that names a link, 0 to 23. -/
def linkOfByte (t : Byte) : Option LinkId := if h : t.toNat < 24 then some ⟨t.toNat, h⟩ else none

/-- A byte that names a bridge, 0 to 3. -/
def bridgeOfByte (t : Byte) : Option BridgeId := if h : t.toNat < 4 then some ⟨t.toNat, h⟩ else none

/-- A byte that names an AUX line, 0 to 11. -/
def auxOfByte (t : Byte) : Option AuxLine := if h : t.toNat < 12 then some ⟨t.toNat, h⟩ else none

/-- The target of READ NOTICES, SET NOTICE ENABLES and CLEAR NOTICE ENABLES (R144, R148). -/
inductive NoticeTarget where
  | segment (x : SegId)
  | allSegments
  | device
  deriving DecidableEq, Repr

/-- The notice target a byte names: 0 to 15, 0xFF for all segments, 0xFE for the device (R144). -/
def noticeTargetOfByte (t : Byte) : Option NoticeTarget :=
  match segOfByte t with
  | some x => some (.segment x)
  | none => if t = 0xFF#8 then some .allSegments else if t = 0xFE#8 then some .device else none

/-- The source a byte names (R3). -/
def sourceOfByte (b : Byte) : Option Source :=
  match b.toNat with
  | 0 => some .own
  | 1 => some .ext0
  | 2 => some .ext0Inv
  | 3 => some .ext1
  | 4 => some .ext1Inv
  | _ => none

/-- The link mode a byte names (section 2.2). -/
def modeOfByte (b : Byte) : Option LinkMode :=
  match b.toNat with
  | 0 => some .declared
  | 1 => some .sensed
  | 2 => some .checked
  | _ => none

/-- The polarity a byte names (section 2.2). -/
def polarityOfByte (b : Byte) : Option Polarity :=
  match b.toNat with
  | 0 => some .normallyOpen
  | 1 => some .normallyClosed
  | _ => none

/-- The declared state a byte names (section 2.2, R27). -/
def contactOfByte (b : Byte) : Option Contact :=
  match b.toNat with
  | 0 => some .opened
  | 1 => some .closed
  | _ => none

/-- The four numeric parameters of DEFINE SEGMENT and AMEND SEGMENT, from byte 2 (R171). -/
def declaredAt (buf : List Byte) : Declared :=
  { vMax := wordAt buf 2, faultFactor := wordAt buf 4, warnFactor := wordAt buf 6, validity := wordAt buf 8 }

/-- The eight parameters of SET TIMING, from byte 2 (R171). -/
def timingAt (buf : List Byte) : Timing :=
  { minDwell := wordAt buf 2, maxDwell := wordAt buf 4, epsilon := wordAt buf 6, spacing := wordAt buf 8,
    quiet := wordAt buf 10, debounce := wordAt buf 12, agreement := wordAt buf 14, lowVoltage := wordAt buf 16 }

/-- The status of a command whose parameters were clamped or not (R162). -/
def clampStatus (changed : Bool) : Status := if changed then .clamped else .ok

end Sys2Proof.Machine
end

