-- ==== Sys2Proof/Machine/Layout.lean ====
section
/-! DEFINITION. The codes of the enumerated fields and the response payloads (R163, R171). -/

namespace Sys2Proof.Machine

/-- A value in `n` bytes, big-endian. -/
def bigEndian : Nat → Nat → List Byte
  | 0, _ => []
  | n + 1, v => BitVec.ofNat 8 (v / 256 ^ n) :: bigEndian n v

/-- One byte. -/
def byte (v : Nat) : List Byte := [BitVec.ofNat 8 v]

/-- A bit map: bit n stands for the n-th entry (R163). -/
def bitMap (bits : List Bool) : Nat := bits.foldr (fun b v => flag b + 2 * v) 0

/-- An optional id: 0xFF when the record holds none (R163). -/
def optionalId (v : Option Nat) : List Byte := byte (v.getD 0xFF)

/-- The age of a recorded reading in four bytes; 0 when none is held (R163). -/
def ageField (now : Uptime) (t : Option Uptime) : List Byte := bigEndian 4 ((t.map (elapsed now)).getD 0)

/-! ## Codes (R171) -/

def Status.code : Status → Byte
  | .ok => 0x00#8 | .clamped => 0x01#8 | .nothing => 0x02#8 | .unknownCommand => 0x10#8 | .shortFrame => 0x11#8
  | .badTarget => 0x12#8 | .notDefined => 0x13#8 | .alreadyDefined => 0x14#8 | .linked => 0x15#8 | .sameEnds => 0x16#8
  | .bridgeTaken => 0x17#8 | .wrongMode => 0x18#8 | .noMeasurement => 0x19#8 | .external => 0x1A#8
  | .notFaulted => 0x1B#8 | .stillFaulty => 0x1C#8 | .trimInvalid => 0x1D#8 | .badValue => 0x1E#8

def Source.code : Source → Nat
  | .own => 0 | .ext0 => 1 | .ext0Inv => 2 | .ext1 => 3 | .ext1Inv => 4

def Quality.code : Quality → Nat
  | .none => 0 | .shared => 1 | .derived => 2 | .direct => 3

def CycleOutcome.code : CycleOutcome → Nat
  | .valid => 0 | .degraded => 1 | .overRange => 2 | .lowVoltage => 3 | .unsteady => 4 | .indeterminate => 5
  | .abandoned => 6 | .bridgeFault => 7 | .noMeasurement => 8 | .external => 9

/-- An outcome; 0xFF when none is held. -/
def outcomeCode (o : Option CycleOutcome) : Nat := (o.map CycleOutcome.code).getD 0xFF

def Supervision.code : Supervision → Nat
  | .own => 0 | .external => 1 | .none => 2

def NetState.code : NetState → Nat
  | .unmeasurable => 0 | .external => 1 | .quiet => 2 | .rest => 3 | .phaseP => 4 | .phaseN => 5 | .release => 6

def Reason.code : Reason → Nat
  | .noBridge => 1 | .stuckBridge => 2 | .allFaulted => 3

def Verdict.code : Verdict → Nat
  | .ok => 0 | .fault => 1

def BridgeState.code : BridgeState → Nat
  | .parked => 0 | .closing => 1 | .dwell => 2 | .settling => 3 | .opening => 4 | .faulted => 5

def FaultCause.code : FaultCause → Nat
  | .trim => 1 | .closeTimeout => 2 | .openTimeout => 3 | .stuck => 4

def Phase.code : Phase → Nat
  | .p => 0 | .n => 1

def LinkMode.code : LinkMode → Nat
  | .declared => 0 | .sensed => 1 | .checked => 2

def Polarity.code : Polarity → Nat
  | .normallyOpen => 0 | .normallyClosed => 1

def Contact.code : Contact → Nat
  | .opened => 0 | .closed => 1

/-! ## Payloads (R171) -/

/-- The eight timing parameters in SET TIMING order. -/
def Timing.bytes (t : Timing) : List Byte :=
  [t.minDwell, t.maxDwell, t.epsilon, t.spacing, t.quiet, t.debounce, t.agreement, t.lowVoltage].flatMap (bigEndian 2)

/-- READ SUMMARY, 28 bytes (R165). -/
def State.summaryPayload (s : State) : List Byte :=
  bigEndian 4 s.uptime.toNat ++ [s.summaryByte]
    ++ bigEndian 2 (bitMap (allSegs.map fun x => (s.seg x).isSome))
    ++ bigEndian 3 (bitMap (allLinks.map fun l => (s.link l).isSome))
    ++ s.timing.bytes
    ++ bigEndian 2 (bitMap ((s.aux.toList ++ s.ext.toList).map (·.level)))

/-- READ SEGMENT, 57 bytes (R19). -/
def State.segmentPayload (s : State) (x : SegId) (g : Segment) : List Byte :=
  bigEndian 2 g.vMax ++ bigEndian 2 g.faultFactor ++ bigEndian 2 g.warnFactor ++ bigEndian 2 g.validity
    ++ byte g.source.code ++ byte (bitMap [g.latch, g.drive]) ++ optionalId (g.bridge.map (·.val))
    ++ optionalId ((s.netOf x).map (·.anchor.val)) ++ byte g.quality.code
    ++ bigEndian 4 g.gp ++ bigEndian 4 g.gn ++ bigEndian 4 g.reported ++ ageField s.uptime (some g.attrTime)
    ++ byte (bitMap [g.stale, g.ext, g.degraded, g.spot.isSome, g.lowMark.isSome]) ++ byte g.alarm.code
    ++ bigEndian 4 g.thresholds.faultOn ++ bigEndian 4 g.thresholds.faultOff
    ++ bigEndian 4 g.thresholds.warnOn ++ bigEndian 4 g.thresholds.warnOff
    ++ bigEndian 4 (g.lowMark.getD 0) ++ ageField s.uptime g.spot ++ byte (outcomeCode g.lastSpot) ++ [g.enables]

/-- The time remaining in a quiet period; 0 when the timer has run out or none is held (R59). -/
def Net.quietRemaining (n : Net) (now : Uptime) : Nat :=
  (n.quiet.map fun q => q.length - elapsed now q.start).getD 0

/-- READ NET, 43 bytes (R59). -/
def State.netPayload (s : State) (n : Net) : List Byte :=
  byte n.anchor.val ++ bigEndian 2 (bitMap (allSegs.map n.members.contains))
    ++ byte (bitMap (allBridges.map n.bridges.contains))
    ++ allBridges.map (fun b => BitVec.ofNat 8 (if n.bridges.contains b then (s.bridge b).state.code else 0xFF))
    ++ byte n.supervision.code ++ byte n.state.code ++ byte ((n.reason.map Reason.code).getD 0)
    ++ bigEndian 2 (n.quietRemaining s.uptime)
    ++ byte (bitMap [n.startPending, n.phaseP.isSome, n.phaseP.any (·.overRange), n.phaseP.any (·.unsettled),
        n.cycleStart.isSome])
    ++ optionalId (n.lastGranted.map (·.val)) ++ optionalId (n.grant.map (·.val)) ++ ageField s.uptime n.cycleStart
    ++ bigEndian 2 ((n.phaseP.map (·.up)).getD 0) ++ bigEndian 2 ((n.phaseP.map (·.un)).getD 0)
    ++ byte (outcomeCode (n.lastResult.map (·.outcome)))
    ++ bigEndian 4 ((n.lastResult.bind (·.gp)).getD 0) ++ bigEndian 4 ((n.lastResult.bind (·.gn)).getD 0)
    ++ bigEndian 2 ((n.lastResult.bind (·.s1)).getD 0) ++ bigEndian 2 ((n.lastResult.bind (·.s2)).getD 0)
    ++ ageField s.uptime (n.lastResult.map (·.time))
    ++ byte (if n.state = .external then (s.verdict n.members).code else 0xFF)
    ++ byte (bitMap (s.ext.toList.map (·.level)))

/-- READ LINK, 13 bytes (R37). The byte of a sensed state that is none is a free value (assumption log 4). -/
def State.linkPayload (s : State) (l : Link) : List Byte :=
  byte l.endA.val ++ byte l.endB.val ++ byte l.mode.code ++ optionalId (l.aux.map (·.val))
    ++ optionalId (l.polarity.map Polarity.code) ++ byte l.declared.code
    ++ [match l.sensed with | some c => BitVec.ofNat 8 c.code | none => Config.absentSensedByte]
    ++ byte l.effective.code
    ++ byte (bitMap [l.disagreeFlag, l.disagreeStart.isSome, l.aux.any fun a => (s.aux[a]).level])
    ++ ageField s.uptime l.disagreeStart

/-- READ BRIDGE, 13 bytes (R78). -/
def State.bridgePayload (s : State) (b : Bridge) : List Byte :=
  byte b.state.code ++ byte b.phase.code
    ++ byte (bitMap [b.crossing, b.drvP, b.drvN, b.snsP, b.snsN, b.overRange])
    ++ ageField s.uptime (some b.entryTime) ++ optionalId (b.attached.map (·.val))
    ++ byte ((b.cause.map FaultCause.code).getD 0) ++ bigEndian 2 b.up ++ bigEndian 2 b.un

/-- The two bytes of a gain word in READ TRIM; above 65535 a free value (assumption log 5). -/
def gainField (gain : Nat) : List Byte :=
  bigEndian 2 (if gain < 65536 then gain else (Config.wideGainField gain).toNat)

/-- READ TRIM, 17 bytes (R167). -/
def Bridge.trimPayload (b : Bridge) : List Byte :=
  bigEndian 2 b.trim.refP.toNat ++ bigEndian 2 b.trim.refN.toNat ++ gainField b.trim.gainP.toNat
    ++ gainField b.trim.gainN.toNat ++ byte (flag !b.trimPassed)
    ++ bigEndian 4 ((b.references.map (·.grP)).getD 0) ++ bigEndian 4 ((b.references.map (·.grN)).getD 0)

/-- READ NOTICES of one segment, 3 bytes (R145). -/
def Segment.noticePayload (g : Segment) : List Byte := [g.pending] ++ byte (flag g.repeated) ++ [g.enables]

/-- READ NOTICES of all segments, 18 bytes; a FREE segment reports an empty set and a clear flag (R145). -/
def State.allNoticesPayload (s : State) : List Byte :=
  allSegs.map (fun x => ((s.seg x).map (·.pending)).getD 0#8)
    ++ bigEndian 2 (bitMap (allSegs.map fun x => (s.seg x).any (·.repeated)))

/-- READ NOTICES of the device, 3 bytes (R145). -/
def State.deviceNoticePayload (s : State) : List Byte :=
  byte s.devPending.toNat ++ byte (flag s.devRepeated) ++ byte s.devEnables.toNat

end Sys2Proof.Machine
end

