-- ==== Sys2Proof/Machine/Ops.lean ====
section
/-! DEFINITION. The shared operations of the serial command port and of the resets: what happens at a rise of CS_N
(R155 to R160), how an event of the part is taken, and how the part stops and starts afresh (R168, R169). -/

namespace Sys2Proof.Machine

/-- How a step answers. -/
abbrev Result := Host.Outcome State Fault Refusal

/-! ## Frames -/

/-- What a command's execution answers: its status and its payload (R160). -/
structure Reply where
  status : Status
  payload : List Byte
  deriving DecidableEq, Repr

/-- A reply without a payload. -/
def Reply.plain (st : Status) : Reply := { status := st, payload := [] }

/-- An accepted read. -/
def Reply.read (payload : List Byte) : Reply := { status := .ok, payload := payload }

/-- The bytes a frame shifts out (R157): the summary byte captured at the fall, the status, code and payload of the slot,
64 bytes at most; each byte after these is 0x00. -/
def Port.outBytes (p : Port) : List Byte :=
  ((p.summary.getD 0#8) :: p.slot.status.code :: p.slot.code :: p.slot.payload).take Config.bufferBytes

/-- The first `n` bytes of a frame's output (R157). -/
def Port.stream (p : Port) (n : Nat) : List Byte := (p.outBytes ++ List.replicate n 0#8).take n

/-- The bytes that begin one bit later in a stream of bytes, most significant bit first: one fewer than the stream holds. -/
def oneBitAhead (bs : List Byte) : List Byte := List.zipWith (fun a b : Byte => a <<< 1 ||| b >>> 7) bs bs.tail

/-- The `n` bytes a host reads from SDO at its rising edges. A clock that idles high has its first falling edge before the
first rising one, and the output is one bit ahead of the host's count (R155). -/
def Port.shifted (p : Port) (n : Nat) (early : Bool) : List Byte :=
  if early then oneBitAhead (p.stream (n + 1)) else p.stream n

/-- CS_N goes HIGH while no frame is open: the port takes nothing (R155, R169). -/
def State.raiseChipSelect (s : State) : State := { s with port := { s.port with csHigh := true } }

/-- The bytes of a frame as the receive buffer stores them, and so its frame length (R156). -/
def storedBytes (code : Byte) (f : Clocked) : List Byte := (code :: f.bytes).take Config.bufferBytes

/-- The port closes the frame: the slot is replaced as a whole (R160), SDO goes to high impedance (R155), and ALERT_N
ends its freeze (R151). `received` is the receive buffer, `sent` are the bytes the frame shifted out, as the host counted them. -/
def State.closeFrame (s : State) (code : Byte) (r : Reply) (received sent : List Byte) : State :=
  { s with
    port := { s.port with
      csHigh := true, frameOpen := false, received := received, summary := none, sdo := none, shiftedOut := sent,
      slot := { status := r.status, code := code, payload := r.payload } } }.refreshLines

/-- A rise of CS_N over a frame whose code is listed with a command length (R159, steps 3 and 4): a shorter frame executes
nothing and gives SHORT_FRAME; otherwise the command is executed on the receive buffer. Where no frame is open, nothing
is executed. -/
def State.riseWith (s : State) (code : Byte) (length : Nat) (f : Clocked) (body : List Byte → State → Reply × State) :
    State :=
  if s.running && s.port.frameOpen then
    let buf := storedBytes code f
    let sent := s.port.shifted (f.bytes.length + 1) f.early
    if buf.length < length then s.closeFrame code (Reply.plain .shortFrame) buf sent
    else (body buf s).2.closeFrame code (body buf s).1 buf sent
  else s.raiseChipSelect

/-- A rise of CS_N over a frame that executes nothing by steps 1 and 2 of R159. -/
def State.riseUnknown (s : State) (code : Option Byte) (f : Clocked) : State :=
  if s.running && s.port.frameOpen then
    match code with
    | none => s.closeFrame 0x00#8 (Reply.plain .shortFrame) [] []
    | some c => s.closeFrame c (Reply.plain .unknownCommand) (storedBytes c f) (s.port.shifted (f.bytes.length + 1) f.early)
  else s.raiseChipSelect

/-- A fall of CS_N (R155): outside a reset a frame opens. The receive buffer is emptied, the summary byte captured (R158)
and its first bit driven onto SDO; ALERT_N keeps its value for the frame (R151). -/
def State.fallChipSelect (s : State) : State :=
  if s.port.csHigh then
    if s.running then
      { s with port := { s.port with
          csHigh := false, frameOpen := true, received := [], summary := some s.summaryByte,
          sdo := some s.summaryByte.msb } }
    else { s with port := { s.port with csHigh := false } }
  else s

/-! ## Events of the part -/

/-- An event of the part is taken when it is due and no reset holds the part (R169); the output lines follow it. An event
that is not due does not happen: the state stays as it is. -/
def State.event (s : State) (due : Bool) (f : State → State) : State :=
  if s.running && due then (f s).refreshLines else s

/-! ## Resets -/

/-- The filters take the raw levels of their lines, run counts 0 (R39). -/
def auxFilters (raw : RawContacts) : Vector Filter 12 :=
  Vector.ofFn fun i => { level := raw.aux.getLsbD i.val, run := 0, due := false }

/-- See `auxFilters`. -/
def extFilters (raw : RawContacts) : Vector Filter 2 :=
  Vector.ofFn fun i => { level := raw.ext.getLsbD i.val, run := 0, due := false }

/-- The notices of a reset (R154): every set emptied, all device enables set, RESTARTED raised, and TRIM_FAULT for each
bridge whose last trim check failed. -/
def State.resetNotices (s : State) : State :=
  (allBridges.filter fun b => !(s.bridge b).trimPassed).foldl (fun t _ => t.raiseDevice .trimFault)
    ({ s with devPending := 0#4, devEnables := 0b1111#4, devRepeated := false }.raiseDevice .restarted)

/-- The records that every reset clears: segments, links and nets (R21, R38, R60), the filters (R39) and the timing
parameters (R171). -/
def State.clearRecords (s : State) (raw : RawContacts) : State :=
  { s with segs := Vector.replicate 16 none, links := Vector.replicate 24 none, nets := [], aux := auxFilters raw,
           ext := extFilters raw, timing := Timing.reset }

/-- The part starts afresh (R169): at the rise of RESET_N, or when the supply has become valid. The level of CS_N is the
pin's own, and no frame is open until it has risen and fallen again. -/
def State.startAfresh (s : State) (raw : RawContacts) : State :=
  ({ s.clearRecords raw with
      uptime := 0#32, bridges := Vector.ofFn fun i => (s.bridges[i]).powerUp,
      port := { csHigh := s.port.csHigh, frameOpen := false, received := [], summary := none, slot := Slot.reset,
                sdo := none, shiftedOut := [] } }).resetNotices.refreshLines

/-- The part stops (R169): the drives turn off, both lines are released, SDO goes to high impedance, an open frame is
discarded, and the uptime counter stops at 0. -/
def State.stop (s : State) : State :=
  { s with
    uptime := 0#32, bridges := Vector.ofFn fun i => { (s.bridges[i]) with drvP := false, drvN := false },
    port := { s.port with frameOpen := false, received := [], summary := none, sdo := none }, alert := false,
    faultLine := false }

/-- The part after RESTART, the port aside (R168): the uptime, the trim checks and the reference conductances are kept. -/
def State.restart (s : State) (raw : RawContacts) : State :=
  ({ s.clearRecords raw with bridges := Vector.ofFn fun i => (s.bridges[i]).restart s.uptime }).resetNotices

end Sys2Proof.Machine
end

