-- ==== Sys2Proof/Machine/ExecBridges.lean ====
section
/-! DEFINITION. The meanings of the bridge commands (R75 to R77), of the sample event (R64, R65), and of the
confirmations and faults of the switches (R69 to R74). -/

namespace Sys2Proof.Machine

/-- Record an attachment on both sides (R76). -/
def State.attach (s : State) (b : BridgeId) (x : SegId) : State :=
  (s.modBridge b fun r => { r with attached := some x }).modSeg x fun g => { g with bridge := some b }

/-- ATTACH_BRIDGE (R76). -/
def attachBridge (buf : List Byte) (s : State) : Reply × State :=
  match bridgeOfByte (byteAt buf 1) with
  | none => (Reply.plain .badTarget, s)
  | some b =>
    match segOfByte (byteAt buf 2) with
    | none => (Reply.plain .notDefined, s)
    | some x =>
      match s.seg x with
      | none => (Reply.plain .notDefined, s)
      | some g =>
        if (s.bridge b).attached.isSome ∨ g.bridge.isSome then (Reply.plain .bridgeTaken, s)
        else (Reply.plain .ok, (s.attach b x).recompute)

/-- ATTACH_BRIDGE (R76). -/
def execAttachBridge (f : Clocked) (s : State) : Result := .next (s.riseWith 0x38#8 3 f attachBridge)

/-- DETACH_BRIDGE (R77): both sides of the attachment are cleared; the recompute takes the grant away if it held one. -/
def detachBridge (buf : List Byte) (s : State) : Reply × State :=
  match bridgeOfByte (byteAt buf 1) with
  | none => (Reply.plain .badTarget, s)
  | some b =>
    match (s.bridge b).attached with
    | none => (Reply.plain .notDefined, s)
    | some x =>
      (Reply.plain .ok,
        ((s.modBridge b fun r => { r with attached := none }).modSeg x fun g => { g with bridge := none }).recompute)

/-- DETACH_BRIDGE (R77). -/
def execDetachBridge (f : Clocked) (s : State) : Result := .next (s.riseWith 0x39#8 2 f detachBridge)

/-- A bridge returned to service: the cause cleared, OPENING with both drives off (R75). -/
def Bridge.returned (b : Bridge) (now : Uptime) : Bridge := { b with cause := none }.enterOpening false now

/-- RESET_BRIDGE (R75). -/
def resetBridge (buf : List Byte) (s : State) : Reply × State :=
  match bridgeOfByte (byteAt buf 1) with
  | none => (Reply.plain .badTarget, s)
  | some b =>
    if (s.bridge b).state ≠ .faulted then (Reply.plain .notFaulted, s)
    else if (s.bridge b).cause = some .trim then (Reply.plain .trimInvalid, s)
    else (Reply.plain .ok, (s.modBridge b (·.returned s.uptime)).recompute)

/-- RESET_BRIDGE (R75). -/
def execResetBridge (f : Clocked) (s : State) : Result := .next (s.riseWith 0x3A#8 2 f resetBridge)

/-! ## Samples -/

/-- A sample event of a bridge: the conversion, and the sample handed on in SETTLING (R64, R65). -/
def State.sampleBridge (s : State) (b : BridgeId) (codeP codeN : BitVec 16) : State :=
  let t := s.modBridge b (·.takeSample codeP codeN)
  if (t.bridge b).state = .settling then t.handSample b (t.bridge b).sample else t

/-- SAMPLE_EVENT (R64): a bridge faulted for TRIM converts no samples (R62). -/
def execSampleEvent (b : BridgeId) (codeP codeN : BitVec 16) (s : State) : Result :=
  .next (s.event ((s.bridge b).cause != some .trim) fun t => t.sampleBridge b codeP codeN)

/-! ## Confirmations -/

/-- CLOSE_CONFIRMATION (R69): DWELL, and the confirmation is reported to the net (R82). -/
def execCloseConfirmation (b : BridgeId) (s : State) : Result :=
  .next (s.event (s.bridge b).closeConfirmed fun t =>
    (t.modBridge b (·.enter .dwell t.uptime)).reportConfirmation b)

/-- The opening of a bridge is confirmed (R71): the crossover continues into CLOSING on the N side, or the bridge is
PARKED and reports its arrival. -/
def State.confirmOpen (s : State) (b : BridgeId) : State :=
  if (s.bridge b).crossing then s.modBridge b (·.enterClosing .n s.uptime)
  else (s.modBridge b (·.enterParked s.uptime)).reportParked b

/-- OPEN_CONFIRMATION (R71). -/
def execOpenConfirmation (b : BridgeId) (s : State) : Result :=
  .next (s.event (s.bridge b).openConfirmed fun t => t.confirmOpen b)

/-! ## Faults -/

/-- CLOSE_TIMEOUT (R69, R73). -/
def execCloseTimeout (b : BridgeId) (s : State) : Result :=
  .next (s.event (s.bridge b).closeTimedOut fun t => t.faultBridge b .closeTimeout)

/-- OPEN_TIMEOUT (R71, R73). -/
def execOpenTimeout (b : BridgeId) (s : State) : Result :=
  .next (s.event (s.bridge b).openTimedOut fun t => t.faultBridge b .openTimeout)

/-- SENSE_DROPOUT (R70, R73): the cause is CLOSE_TIMEOUT. -/
def execSenseDropout (b : BridgeId) (s : State) : Result :=
  .next (s.event (s.bridge b).droppedOut fun t => t.faultBridge b .closeTimeout)

/-- STUCK_OPPOSITE_SENSE (R70, R73). -/
def execStuckOppositeSense (b : BridgeId) (s : State) : Result :=
  .next (s.event (s.bridge b).oppositeStuck fun t => t.faultBridge b .stuck)

/-- STUCK_IN_PARKED (R72, R73). -/
def execStuckInParked (b : BridgeId) (s : State) : Result :=
  .next (s.event (s.bridge b).parkedStuck fun t => t.faultBridge b .stuck)

/-- STUCK_ESCALATION (R74): a new entry into FAULTED with cause STUCK. -/
def execStuckEscalation (b : BridgeId) (s : State) : Result :=
  .next (s.event (s.bridge b).escalates fun t => t.faultBridge b .stuck)

end Sys2Proof.Machine
end

