-- ==== Sys2Proof/Machine/ExecPort.lean ====
section
/-! DEFINITION. The meanings of the port's own commands, of the reads and of the notice commands (R145, R148, R155, R159,
R164 to R167; R19, R37, R59, R78). -/

namespace Sys2Proof.Machine

/-- CHIP_SELECT_FALL (R155). -/
def execChipSelectFall (s : State) : Result := .next s.fallChipSelect

/-- UNKNOWN_COMMAND (R159, steps 1 and 2). A term that names a listed code is no such frame. -/
def execUnknownCommand (code : Option Byte) (f : Clocked) (s : State) : Result :=
  if unknownFrame code f then .next (s.riseUnknown code f) else .refused .notAnUnknownCommand

/-- NO_OPERATION (R164). -/
def execNoOperation (f : Clocked) (s : State) : Result :=
  .next (s.riseWith 0x00#8 2 f fun _ t => (Reply.plain .ok, t))

/-- READ_SUMMARY (R165). -/
def execReadSummary (f : Clocked) (s : State) : Result :=
  .next (s.riseWith 0x10#8 2 f fun _ t => (Reply.read t.summaryPayload, t))

/-- READ_SEGMENT (R19). -/
def readSegment (buf : List Byte) (s : State) : Reply × State :=
  match segOfByte (byteAt buf 1) with
  | none => (Reply.plain .badTarget, s)
  | some x =>
    match s.seg x with
    | none => (Reply.plain .notDefined, s)
    | some g => (Reply.read (s.segmentPayload x g), s)

/-- READ_SEGMENT (R19). -/
def execReadSegment (f : Clocked) (s : State) : Result := .next (s.riseWith 0x11#8 2 f readSegment)

/-- READ_NET (R59): any member id returns its net. Every DEFINED segment is in a net (R41); a record in none has no net
to report. -/
def readNet (buf : List Byte) (s : State) : Reply × State :=
  match segOfByte (byteAt buf 1) with
  | none => (Reply.plain .badTarget, s)
  | some x =>
    match s.seg x, s.netOf x with
    | some _, some n => (Reply.read (s.netPayload n), s)
    | _, _ => (Reply.plain .notDefined, s)

/-- READ_NET (R59). -/
def execReadNet (f : Clocked) (s : State) : Result := .next (s.riseWith 0x12#8 2 f readNet)

/-- READ_LINK (R37). -/
def readLink (buf : List Byte) (s : State) : Reply × State :=
  match linkOfByte (byteAt buf 1) with
  | none => (Reply.plain .badTarget, s)
  | some l =>
    match s.link l with
    | none => (Reply.plain .notDefined, s)
    | some r => (Reply.read (s.linkPayload r), s)

/-- READ_LINK (R37). -/
def execReadLink (f : Clocked) (s : State) : Result := .next (s.riseWith 0x13#8 2 f readLink)

/-- READ_BRIDGE (R78). -/
def readBridge (buf : List Byte) (s : State) : Reply × State :=
  match bridgeOfByte (byteAt buf 1) with
  | none => (Reply.plain .badTarget, s)
  | some b => (Reply.read (s.bridgePayload (s.bridge b)), s)

/-- READ_BRIDGE (R78). -/
def execReadBridge (f : Clocked) (s : State) : Result := .next (s.riseWith 0x14#8 2 f readBridge)

/-- The pending set and the repeat flag of a segment are cleared (R145). -/
def Segment.clearNotices (g : Segment) : Segment := { g with pending := 0#8, repeated := false }

/-- READ_NOTICES (R144, R145). -/
def readNotices (buf : List Byte) (s : State) : Reply × State :=
  match noticeTargetOfByte (byteAt buf 1) with
  | none => (Reply.plain .badTarget, s)
  | some (.segment x) =>
    match s.seg x with
    | none => (Reply.plain .notDefined, s)
    | some g => (Reply.read g.noticePayload, s.setSeg x (some g.clearNotices))
  | some .allSegments => (Reply.read s.allNoticesPayload, s.mapSegs fun _ g => g.clearNotices)
  | some .device => (Reply.read s.deviceNoticePayload, { s with devPending := 0#4, devRepeated := false })

/-- READ_NOTICES (R145). -/
def execReadNotices (f : Clocked) (s : State) : Result := .next (s.riseWith 0x15#8 2 f readNotices)

/-- READ_TRIM (R167). -/
def readTrim (buf : List Byte) (s : State) : Reply × State :=
  match bridgeOfByte (byteAt buf 1) with
  | none => (Reply.plain .badTarget, s)
  | some b => (Reply.read (s.bridge b).trimPayload, s)

/-- READ_TRIM (R167). -/
def execReadTrim (f : Clocked) (s : State) : Result := .next (s.riseWith 0x16#8 2 f readTrim)

/-- A change of a segment's enables, with its effect on the warn comparator (R148, R149). -/
def Segment.setEnables (g : Segment) (e : BitVec 8) : Segment := { g with enables := e }.switchComparator g.enables

/-- SET and CLEAR NOTICE ENABLES on their target (R148): `f8` and `f4` give the new enables from the old. -/
def changeEnables (f8 : BitVec 8 → BitVec 8) (f4 : BitVec 4 → BitVec 4) (target : Byte) (s : State) : Reply × State :=
  match noticeTargetOfByte target with
  | none => (Reply.plain .badTarget, s)
  | some (.segment x) =>
    match s.seg x with
    | none => (Reply.plain .notDefined, s)
    | some g => (Reply.plain .ok, s.setSeg x (some (g.setEnables (f8 g.enables))))
  | some .allSegments => (Reply.plain .ok, s.mapSegs fun _ g => g.setEnables (f8 g.enables))
  | some .device => (Reply.plain .ok, { s with devEnables := f4 s.devEnables })

/-- SET_NOTICE_ENABLES (R148): the kinds named in the mask are added; the four mask bits that name no device kind are
ignored. -/
def setNoticeEnables (buf : List Byte) (s : State) : Reply × State :=
  changeEnables (· ||| byteAt buf 2) (· ||| (byteAt buf 2).setWidth 4) (byteAt buf 1) s

/-- SET_NOTICE_ENABLES (R148). -/
def execSetNoticeEnables (f : Clocked) (s : State) : Result := .next (s.riseWith 0x40#8 3 f setNoticeEnables)

/-- CLEAR_NOTICE_ENABLES (R148): the kinds named in the mask are removed. -/
def clearNoticeEnables (buf : List Byte) (s : State) : Reply × State :=
  changeEnables (· &&& ~~~(byteAt buf 2)) (· &&& ~~~((byteAt buf 2).setWidth 4)) (byteAt buf 1) s

/-- CLEAR_NOTICE_ENABLES (R148). -/
def execClearNoticeEnables (f : Clocked) (s : State) : Result := .next (s.riseWith 0x41#8 3 f clearNoticeEnables)

/-- SET_TIMING (R166): the eight clamped values are held at once. -/
def setTiming (buf : List Byte) (s : State) : Reply × State :=
  let t := timingAt buf
  (Reply.plain (clampStatus (t.clamp != t)), { s with timing := t.clamp })

/-- SET_TIMING (R166). -/
def execSetTiming (f : Clocked) (s : State) : Result := .next (s.riseWith 0x50#8 18 f setTiming)

end Sys2Proof.Machine
end

