-- ==== Sys2Proof/Machine/ExecSegments.lean ====
section
/-! DEFINITION. The meanings of the segment table's commands (R1 to R18), of ACKNOWLEDGE FAULT (R134, R135), of SPOT CHECK
(R94) and of EXPIRY (R12). -/

namespace Sys2Proof.Machine

/-- A segment record at its definition (R4). -/
def Segment.define (d : Declared) (src : Source) (latch drive : Bool) (now : Uptime) : Segment :=
  { vMax := d.vMax, faultFactor := d.faultFactor, warnFactor := d.warnFactor, validity := d.validity, source := src,
    latch := latch, drive := drive, bridge := none, quality := .none, gp := 0, gn := 0, attrTime := now,
    expiry := none, stale := false, ext := false, degraded := false, alarm := .clear,
    thresholds := thresholdsOf d.vMax d.faultFactor d.warnFactor, lowMark := none, spot := none, lastSpot := none,
    enables := 0xFF#8, pending := 0#8, repeated := false }

/-- DEFINE_SEGMENT (R2, R3, R4). -/
def defineSegment (buf : List Byte) (s : State) : Reply × State :=
  match segOfByte (byteAt buf 1) with
  | none => (Reply.plain .badTarget, s)
  | some x =>
    match s.seg x with
    | some _ => (Reply.plain .alreadyDefined, s)
    | none =>
      match sourceOfByte (byteAt buf 10) with
      | none => (Reply.plain .badValue, s)
      | some src =>
        let d := declaredAt buf
        let g := Segment.define d.clamp src ((byteAt buf 11).getLsbD 0) ((byteAt buf 11).getLsbD 1) s.uptime
        (Reply.plain (clampStatus (d.clamp != d)), (s.setSeg x (some g)).recompute)

/-- DEFINE_SEGMENT (R4). -/
def execDefineSegment (f : Clocked) (s : State) : Result := .next (s.riseWith 0x20#8 12 f defineSegment)

/-- The declared properties of an amend are written, with the threshold and alarm consequence when the working voltage
or a factor differs from the value held (R5, R6, R7). -/
def Segment.amend (g : Segment) (d : Declared) (src : Source) (latch drive : Bool) : Segment :=
  let w := { g with vMax := d.vMax, faultFactor := d.faultFactor, warnFactor := d.warnFactor, validity := d.validity,
                    source := src, latch := latch, drive := drive }
  if d.vMax = g.vMax ∧ d.faultFactor = g.faultFactor ∧ d.warnFactor = g.warnFactor then w
  else { w with thresholds := thresholdsOf d.vMax d.faultFactor d.warnFactor }.evaluate

/-- The validity consequence of an amend (R10). -/
def Segment.reschedule (g : Segment) (now : Uptime) : Segment :=
  if g.quality = .none ∨ g.stale = true then g
  else if elapsed now g.attrTime < g.validity * 1000 then { g with expiry := some (expiryAfter g.attrTime g.validity) }
  else g.goStale

/-- AMEND_SEGMENT (R2, R6 to R10): the consequences in the order R7, R8, R9, R10. R8 is the refresh of FAULT_N that ends
the frame. -/
def amendSegment (buf : List Byte) (s : State) : Reply × State :=
  match segOfByte (byteAt buf 1) with
  | none => (Reply.plain .badTarget, s)
  | some x =>
    match s.seg x with
    | none => (Reply.plain .notDefined, s)
    | some g =>
      match sourceOfByte (byteAt buf 10) with
      | none => (Reply.plain .badValue, s)
      | some src =>
        let d := declaredAt buf
        let w := g.amend d.clamp src ((byteAt buf 11).getLsbD 0) ((byteAt buf 11).getLsbD 1)
        let t := s.setSeg x (some w)
        let t := if src = g.source then t else t.recompute
        let t := if d.clamp.validity = g.validity then t else t.modSeg x (·.reschedule s.uptime)
        (Reply.plain (clampStatus (d.clamp != d)), t)

/-- AMEND_SEGMENT (R6). -/
def execAmendSegment (f : Clocked) (s : State) : Result := .next (s.riseWith 0x21#8 12 f amendSegment)

/-- A segment is an end of a DEFINED link (R17). -/
def State.linked (s : State) (x : SegId) : Bool :=
  allLinks.any fun i => (s.link i).any fun l => decide (l.endA = x) || decide (l.endB = x)

/-- Detach a bridge: its attached segment becomes none (R18, R77). -/
def State.detach (s : State) (b : BridgeId) : State := s.modBridge b fun r => { r with attached := none }

/-- RETIRE_SEGMENT (R17, R18): the bridge is detached, the record freed with its spot and its notices, and the one
topology event handed over. -/
def retireSegment (buf : List Byte) (s : State) : Reply × State :=
  match segOfByte (byteAt buf 1) with
  | none => (Reply.plain .badTarget, s)
  | some x =>
    match s.seg x with
    | none => (Reply.plain .notDefined, s)
    | some g =>
      if s.linked x then (Reply.plain .linked, s)
      else
        let t := match g.bridge with | some b => s.detach b | none => s
        (Reply.plain .ok, (t.setSeg x none).recompute)

/-- RETIRE_SEGMENT (R18). -/
def execRetireSegment (f : Clocked) (s : State) : Result := .next (s.riseWith 0x22#8 2 f retireSegment)

/-- The mark CLEAR LOW MARK leaves (R16). -/
def Segment.restartMark (g : Segment) : Segment :=
  { g with lowMark := if g.quality = .direct ∨ g.quality = .derived then some g.reported else none }

/-- CLEAR_LOW_MARK (R16). -/
def clearLowMark (buf : List Byte) (s : State) : Reply × State :=
  match segOfByte (byteAt buf 1) with
  | none => (Reply.plain .badTarget, s)
  | some x =>
    match s.seg x with
    | none => (Reply.plain .notDefined, s)
    | some g => (Reply.plain .ok, s.setSeg x (some g.restartMark))

/-- CLEAR_LOW_MARK (R16). -/
def execClearLowMark (f : Clocked) (s : State) : Result := .next (s.riseWith 0x23#8 2 f clearLowMark)

/-- The present verdict of the net of a segment (R54); a record in no net has none to show OK. -/
def State.verdictOf (s : State) (x : SegId) : Verdict :=
  match s.netOf x with
  | some n => s.verdict n.members
  | none => .fault

/-- The fault of a latched segment has cleared (R134). -/
def State.faultCleared (s : State) (x : SegId) (g : Segment) : Bool :=
  if g.ext then s.verdictOf x == .ok else g.quality != .none && decide (g.worse < g.thresholds.faultOff)

/-- The alarm an accepted acknowledgement leaves (R135). -/
def Segment.acknowledged (g : Segment) : Segment := if g.ext then g.setAlarm .clear else g.setAlarm g.tableAlarm

/-- ACKNOWLEDGE_FAULT (R134, R135). -/
def acknowledgeFault (buf : List Byte) (s : State) : Reply × State :=
  match segOfByte (byteAt buf 1) with
  | none => (Reply.plain .badTarget, s)
  | some x =>
    match s.seg x with
    | none => (Reply.plain .notDefined, s)
    | some g =>
      if !g.latched then (Reply.plain .notFaulted, s)
      else if !s.faultCleared x g then (Reply.plain .stillFaulty, s)
      else (Reply.plain .ok, s.setSeg x (some g.acknowledged))

/-- ACKNOWLEDGE_FAULT (R135). -/
def execAcknowledgeFault (f : Clocked) (s : State) : Result := .next (s.riseWith 0x24#8 2 f acknowledgeFault)

/-- The request of a spot check; an earlier pending request stands (R94). -/
def Segment.requestSpot (g : Segment) (now : Uptime) : Segment :=
  { g with spot := match g.spot with | some t => some t | none => some now }

/-- SPOT_CHECK (R94). A net in REST with no start pending starts its cycle at once. -/
def spotCheck (buf : List Byte) (s : State) : Reply × State :=
  match segOfByte (byteAt buf 1) with
  | none => (Reply.plain .badTarget, s)
  | some x =>
    match s.seg x with
    | none => (Reply.plain .notDefined, s)
    | some g =>
      let t := s.setSeg x (some (g.requestSpot s.uptime))
      match s.netOf x with
      | none => (Reply.plain .ok, t)
      | some n =>
        match n.state with
        | .external => (Reply.plain .external, s)
        | .unmeasurable => (Reply.plain .noMeasurement, s)
        | .rest => (Reply.plain .ok, if n.startPending then t else t.startCycle n.anchor)
        | .quiet | .phaseP | .phaseN | .release => (Reply.plain .ok, t)

/-- SPOT_CHECK (R94). -/
def execSpotCheck (f : Clocked) (s : State) : Result := .next (s.riseWith 0x28#8 2 f spotCheck)

/-- EXPIRY (R12) is due when the uptime has reached the record's expiry moment. -/
def execExpiry (x : SegId) (s : State) : Result :=
  .next (s.event ((s.seg x).any (·.expiryReached s.uptime)) fun t => t.modSeg x Segment.goStale)

end Sys2Proof.Machine
end

