-- ==== Sys2Proof/Machine/ExecLinks.lean ====
section
/-! DEFINITION. The meanings of the link table's commands (R22 to R28), of the filtered changes (R29 to R32, R55) and of
the agreement window (R33 to R36). -/

namespace Sys2Proof.Machine

/-! ## Derived states of a link -/

/-- The sensed state a filtered level gives through a polarity (R32). -/
def sensedOf (p : Polarity) (high : Bool) : Contact :=
  match p, high with
  | .normallyOpen, true => .closed
  | .normallyOpen, false => .opened
  | .normallyClosed, true => .opened
  | .normallyClosed, false => .closed

/-- The effective state of a link from its mode (R25). -/
def effectiveOf (m : LinkMode) (declared : Contact) (sensed : Option Contact) : Contact :=
  match m with
  | .declared => declared
  | .sensed => sensed.getD declared
  | .checked => if declared = .closed ∨ sensed = some .closed then .closed else .opened

/-- The effective state is derived again (R25). -/
def Link.deriveEffective (l : Link) : Link := { l with effective := effectiveOf l.mode l.declared l.sensed }

/-- The disagreement of a CHECKED link is evaluated (R33, R35). -/
def Link.judge (l : Link) (now : Uptime) : Link :=
  if l.mode = .checked then
    if l.sensed = some l.declared then { l with disagreeStart := none, disagreeFlag := false }
    else { l with disagreeStart := match l.disagreeStart with | some t => some t | none => some now }
  else l

/-! ## DEFINE, RETIRE and DECLARE LINK -/

/-- A link record at its definition (R24). `sensor` is the aux line with its polarity, none in DECLARED mode; `high` the
filtered level of that line. -/
def Link.define (a b : SegId) (m : LinkMode) (sensor : Option (AuxLine × Polarity)) (high : Bool) (declared : Contact)
    (now : Uptime) : Link :=
  ({ endA := a, endB := b, mode := m, aux := sensor.map (·.1), polarity := sensor.map (·.2), declared := declared,
     sensed := sensor.map fun p => sensedOf p.2 high, effective := .opened, disagreeStart := none,
     disagreeFlag := false } : Link).deriveEffective.judge now

/-- The aux line and polarity bytes of DEFINE LINK, which DECLARED mode does not use and does not check (R23, check 6).
The outer option is the check, the inner one is none in DECLARED mode. -/
def sensorAt (m : LinkMode) (aux polarity : Byte) : Option (Option (AuxLine × Polarity)) :=
  match m with
  | .declared => some none
  | .sensed | .checked =>
    match auxOfByte aux, polarityOfByte polarity with
    | some a, some p => some (some (a, p))
    | _, _ => none

/-- The filtered level of an aux line (R24, R37). -/
def State.auxLevel (s : State) (a : AuxLine) : Bool := (s.aux[a]).level

/-- An end byte of DEFINE LINK names a DEFINED segment (R23, check 3). -/
def State.definedEnd (s : State) (t : Byte) : Option SegId :=
  match segOfByte t with
  | some x => if (s.seg x).isSome then some x else none
  | none => none

/-- DEFINE_LINK (R23, R24). -/
def defineLink (buf : List Byte) (s : State) : Reply × State :=
  match linkOfByte (byteAt buf 1) with
  | none => (Reply.plain .badTarget, s)
  | some i =>
    match s.link i with
    | some _ => (Reply.plain .alreadyDefined, s)
    | none =>
      match s.definedEnd (byteAt buf 2), s.definedEnd (byteAt buf 3) with
      | some a, some b =>
        if a = b then (Reply.plain .sameEnds, s)
        else
          match modeOfByte (byteAt buf 4), contactOfByte (byteAt buf 7) with
          | some m, some d =>
            match sensorAt m (byteAt buf 5) (byteAt buf 6) with
            | none => (Reply.plain .badValue, s)
            | some sensor =>
              let l := Link.define a b m sensor (sensor.any fun p => s.auxLevel p.1) d s.uptime
              let t := s.setLink i (some l)
              (Reply.plain .ok, if l.effective = .closed then t.recompute else t)
          | _, _ => (Reply.plain .badValue, s)
      | _, _ => (Reply.plain .notDefined, s)

/-- DEFINE_LINK (R24). -/
def execDefineLink (f : Clocked) (s : State) : Result := .next (s.riseWith 0x30#8 8 f defineLink)

/-- RETIRE_LINK (R28). -/
def retireLink (buf : List Byte) (s : State) : Reply × State :=
  match linkOfByte (byteAt buf 1) with
  | none => (Reply.plain .badTarget, s)
  | some i =>
    match s.link i with
    | none => (Reply.plain .notDefined, s)
    | some l =>
      let t := s.setLink i none
      (Reply.plain .ok, if l.effective = .closed then t.recompute else t)

/-- RETIRE_LINK (R28). -/
def execRetireLink (f : Clocked) (s : State) : Result := .next (s.riseWith 0x31#8 2 f retireLink)

/-- DECLARE_LINK (R27). A declaration that repeats the held state changes nothing. -/
def declareLink (buf : List Byte) (s : State) : Reply × State :=
  match linkOfByte (byteAt buf 1) with
  | none => (Reply.plain .badTarget, s)
  | some i =>
    match s.link i with
    | none => (Reply.plain .notDefined, s)
    | some l =>
      if l.mode = .sensed then (Reply.plain .wrongMode, s)
      else
        match contactOfByte (byteAt buf 2) with
        | none => (Reply.plain .badValue, s)
        | some d =>
          if d = l.declared then (Reply.plain .ok, s)
          else
            let r := { l with declared := d }.deriveEffective.judge s.uptime
            let t := s.setLink i (some r)
            (Reply.plain .ok, if r.effective = l.effective then t else t.recompute)

/-- DECLARE_LINK (R27). -/
def execDeclareLink (f : Clocked) (s : State) : Result := .next (s.riseWith 0x32#8 3 f declareLink)

/-! ## Filters -/

/-- A sample of a filter (R29). The comparison with the debounce time is made at the sample (R31); the filtered change it
finds is taken by the FILTERED_CHANGE event of the same 1 ms event. -/
def Filter.sample (f : Filter) (raw : Bool) (debounce : Nat) : Filter :=
  if raw = f.level then { f with run := 0, due := false }
  else { f with run := f.run + 1, due := decide (debounce ≤ f.run + 1) }

/-- The filtered level takes the raw level, opposite to it, and the run count becomes 0 (R29). -/
def Filter.change (f : Filter) : Filter := { level := !f.level, run := 0, due := false }

/-- A filtered change reaches a link whose aux line it is: the sensed state, the effective state and the disagreement
are derived again when the sensed state changes (R32, R33). -/
def Link.follow (l : Link) (line : AuxLine) (high : Bool) (now : Uptime) : Link :=
  match l.aux, l.polarity with
  | some a, some p =>
    if a = line ∧ l.sensed ≠ some (sensedOf p high) then
      { l with sensed := some (sensedOf p high) }.deriveEffective.judge now
    else l
  | _, _ => l

/-- The links after a filtered change of a line (R32). -/
def State.followLinks (s : State) (line : AuxLine) (high : Bool) : State :=
  { s with links := Vector.ofFn fun i => (s.links[i]).map fun l => l.follow line high s.uptime }

/-- The effective state of some link differs between two states of the link table (R26). -/
def effectiveChanged (s t : State) : Bool :=
  allLinks.any fun i => decide (((s.link i).map (·.effective)) ≠ ((t.link i).map (·.effective)))

/-- A filtered change of an AUX line: the links on it follow, and if the effective state of any changed there is one
topology event (R26, R30, R32). -/
def State.changeAux (s : State) (line : AuxLine) : State :=
  let f := (s.aux[line]).change
  let t := { s with aux := s.aux.set line f }.followLinks line f.level
  if effectiveChanged s t then t.recompute else t

/-- FILTERED_CHANGE_AUX (R32). -/
def execFilteredChangeAux (line : AuxLine) (s : State) : Result :=
  .next (s.event (s.aux[line]).due fun t => t.changeAux line)

/-- The verdict is handed on for the members of every EXTERNAL net that has a member whose selected line is this line
(R55). -/
def State.handVerdicts (s : State) (line : ExtLine) : State :=
  s.mapSegs fun x g =>
    match s.netOf x with
    | some n =>
      if n.state = .external ∧ n.members.any (fun y => (s.seg y).any fun h => h.source.line == some line) then
        g.applyVerdict (s.verdict n.members)
      else g
    | none => g

/-- A filtered change of an EXT line (R30, R55). -/
def State.changeExt (s : State) (line : ExtLine) : State :=
  { s with ext := s.ext.set line (s.ext[line]).change }.handVerdicts line

/-- FILTERED_CHANGE_EXT (R55). -/
def execFilteredChangeExt (line : ExtLine) (s : State) : Result :=
  .next (s.event (s.ext[line]).due fun t => t.changeExt line)

/-! ## The agreement window -/

/-- The age of the link's disagreement has reached the agreement window while its flag is clear (R34). -/
def Link.windowOver (l : Link) (now : Uptime) (window : Nat) : Bool :=
  l.mode == .checked && !l.disagreeFlag && l.disagreeStart.any fun t => decide (window ≤ elapsed now t)

/-- The link's disagreement flag is set and LINK_DISAGREE raised (R34). -/
def State.flagDisagreement (s : State) (i : LinkId) : State :=
  (s.setLink i ((s.link i).map fun l => { l with disagreeFlag := true })).raiseDevice .linkDisagree

/-- AGREEMENT_WINDOW_EXPIRY (R34). -/
def execAgreementWindowExpiry (i : LinkId) (s : State) : Result :=
  .next (s.event ((s.link i).any fun l => l.windowOver s.uptime s.timing.agreement) fun t => t.flagDisagreement i)

end Sys2Proof.Machine
end

