-- ==== Sys2Proof/Machine/ExecTime.lean ====
section
/-! DEFINITION. The meanings of the time base (R20, R29, R66), of the timers of a net (R51, R83, R86, R90) and of the
resets (R141, R168, R169). -/

namespace Sys2Proof.Machine

/-! ## The time base -/

/-- A 1 ms event: the uptime counter advances by one (R20), every filter samples its line (R29), every bridge its senses
(R66). -/
def State.tick (s : State) (raw : RawLevels) : State :=
  { s with
    uptime := s.uptime + 1#32,
    aux := Vector.ofFn fun i => (s.aux[i]).sample (raw.contacts.aux.getLsbD i.val) s.timing.debounce,
    ext := Vector.ofFn fun i => (s.ext[i]).sample (raw.contacts.ext.getLsbD i.val) s.timing.debounce,
    bridges := Vector.ofFn fun i => (s.bridges[i]).sense (raw.snsP.getLsbD i.val) (raw.snsN.getLsbD i.val) }

/-- UPTIME_ADVANCE (R20); no sample, filter or timer event is taken in a reset (R169). -/
def execUptimeAdvance (raw : RawLevels) (s : State) : Result := .next (if s.running then s.tick raw else s)

/-! ## The timers of a net -/

/-- The net in PHASE_P or PHASE_N whose phase's switch is confirmed, with its grant and its captured parameters (R82). -/
def Net.timedPhase (n : Net) : Option (BridgeId × Confirmation) :=
  if n.inProgress then
    match n.grant, n.confirmation with
    | some b, some c => some (b, c)
    | _, _ => none
  else none

/-- The bridge whose dwell timer runs out on this net (R83). -/
def State.dwellDue (s : State) (a : SegId) : Option BridgeId :=
  (s.netAt a).bind fun n =>
    match n.timedPhase with
    | some (b, c) => if c.dwellOver s.uptime ∧ (s.bridge b).state = .dwell then some b else none
    | none => none

/-- DWELL_TIMER_EXPIRY (R83): the granted bridge enters SETTLING. -/
def execDwellTimerExpiry (a : SegId) (s : State) : Result :=
  .next (s.event (s.dwellDue a).isSome fun t =>
    match t.dwellDue a with
    | some b => t.modBridge b (·.endDwell t.uptime)
    | none => t)

/-- The net whose max-dwell timer runs out (R86). -/
def State.maxDwellDue (s : State) (a : SegId) : Option Net :=
  (s.netAt a).bind fun n =>
    match n.timedPhase with
    | some (_, c) => if c.maxDwellOver s.uptime then some n else none
    | none => none

/-- MAX_DWELL_TIMER_EXPIRY (R86): the phase ends as unsettled. -/
def execMaxDwellTimerExpiry (a : SegId) (s : State) : Result :=
  .next (s.event (s.maxDwellDue a).isSome fun t =>
    match t.maxDwellDue a with
    | some n => t.endPhase n true
    | none => t)

/-- The quiet timer of a net in QUIET has run its length (R51). -/
def Net.quietDue (n : Net) (now : Uptime) : Bool :=
  n.state == .quiet && n.quiet.any fun q => decide (q.length ≤ elapsed now q.start)

/-- QUIET_TIMER_EXPIRY (R51): the expiry is taken and the test made. -/
def execQuietTimerExpiry (a : SegId) (s : State) : Result :=
  .next (s.event ((s.netAt a).any (·.quietDue s.uptime)) fun t =>
    (t.modNet a fun n => { n with quiet := n.quiet.map fun q => { q with expired := true } }).testWaiting a)

/-- The spacing of a net in REST has run its length (R90). -/
def Net.spacingDue (n : Net) (now : Uptime) : Bool :=
  n.state == .rest && n.spacing.any fun p => decide (p.length ≤ elapsed now p.start)

/-- SPACING_EXPIRY (R90): the next cycle starts. -/
def execSpacingExpiry (a : SegId) (s : State) : Result :=
  .next (s.event ((s.netAt a).any (·.spacingDue s.uptime)) fun t => t.startCycle a)

/-! ## Resets -/

/-- RESTART (R168). -/
def execRestart (f : Clocked) (raw : RawContacts) (s : State) : Result :=
  .next (s.riseWith 0x5A#8 2 f fun _ t => (Reply.plain .ok, t.restart raw))

/-- POWER_ON_RESET (R169): the supply becomes valid and the part starts afresh, unless RESET_N still holds it. -/
def execPowerOnReset (raw : RawContacts) (s : State) : Result :=
  .next (if s.resetHigh then { s with supplyValid := true }.startAfresh raw else { s with supplyValid := true })

/-- PIN_RESET (R169): RESET_N falls and the part stops. -/
def execPinReset (s : State) : Result := .next { s with resetHigh := false }.stop

/-- RESET_N_RISE (R169): at a rise of RESET_N with the supply valid the part starts afresh. -/
def execResetNRise (raw : RawContacts) (s : State) : Result :=
  .next (if s.resetHigh then s
    else if s.supplyValid then { s with resetHigh := true }.startAfresh raw
    else { s with resetHigh := true })

/-- POWER_ON_RESET_START (R141, R169): the supply ceases to be valid and the part stops. -/
def execPowerOnResetStart (s : State) : Result := .next { s with supplyValid := false }.stop

end Sys2Proof.Machine
end

