-- ==== Sys2Proof/Machine/Dispatch.lean ====
section
/-! DEFINITION. The dispatch: one arm per constructor of Instr, each one direct call of its meaning. -/

namespace Sys2Proof.Machine

def exec (i : Instr) (s : State) : Host.Outcome State Fault Refusal :=
  match i with
  | .chipSelectFall => Sys2Proof.Machine.execChipSelectFall s
  | .unknownCommand code f => Sys2Proof.Machine.execUnknownCommand code f s
  | .noOperation f => Sys2Proof.Machine.execNoOperation f s
  | .readSummary f => Sys2Proof.Machine.execReadSummary f s
  | .readSegment f => Sys2Proof.Machine.execReadSegment f s
  | .readNet f => Sys2Proof.Machine.execReadNet f s
  | .readLink f => Sys2Proof.Machine.execReadLink f s
  | .readBridge f => Sys2Proof.Machine.execReadBridge f s
  | .readNotices f => Sys2Proof.Machine.execReadNotices f s
  | .readTrim f => Sys2Proof.Machine.execReadTrim f s
  | .defineSegment f => Sys2Proof.Machine.execDefineSegment f s
  | .amendSegment f => Sys2Proof.Machine.execAmendSegment f s
  | .retireSegment f => Sys2Proof.Machine.execRetireSegment f s
  | .clearLowMark f => Sys2Proof.Machine.execClearLowMark f s
  | .acknowledgeFault f => Sys2Proof.Machine.execAcknowledgeFault f s
  | .spotCheck f => Sys2Proof.Machine.execSpotCheck f s
  | .defineLink f => Sys2Proof.Machine.execDefineLink f s
  | .retireLink f => Sys2Proof.Machine.execRetireLink f s
  | .declareLink f => Sys2Proof.Machine.execDeclareLink f s
  | .attachBridge f => Sys2Proof.Machine.execAttachBridge f s
  | .detachBridge f => Sys2Proof.Machine.execDetachBridge f s
  | .resetBridge f => Sys2Proof.Machine.execResetBridge f s
  | .setNoticeEnables f => Sys2Proof.Machine.execSetNoticeEnables f s
  | .clearNoticeEnables f => Sys2Proof.Machine.execClearNoticeEnables f s
  | .setTiming f => Sys2Proof.Machine.execSetTiming f s
  | .restart f raw => Sys2Proof.Machine.execRestart f raw s
  | .powerOnReset raw => Sys2Proof.Machine.execPowerOnReset raw s
  | .pinReset => Sys2Proof.Machine.execPinReset s
  | .resetNRise raw => Sys2Proof.Machine.execResetNRise raw s
  | .uptimeAdvance raw => Sys2Proof.Machine.execUptimeAdvance raw s
  | .filteredChangeAux line => Sys2Proof.Machine.execFilteredChangeAux line s
  | .filteredChangeExt line => Sys2Proof.Machine.execFilteredChangeExt line s
  | .agreementWindowExpiry link => Sys2Proof.Machine.execAgreementWindowExpiry link s
  | .expiry seg => Sys2Proof.Machine.execExpiry seg s
  | .sampleEvent bridge codeP codeN => Sys2Proof.Machine.execSampleEvent bridge codeP codeN s
  | .dwellTimerExpiry anchor => Sys2Proof.Machine.execDwellTimerExpiry anchor s
  | .maxDwellTimerExpiry anchor => Sys2Proof.Machine.execMaxDwellTimerExpiry anchor s
  | .quietTimerExpiry anchor => Sys2Proof.Machine.execQuietTimerExpiry anchor s
  | .spacingExpiry anchor => Sys2Proof.Machine.execSpacingExpiry anchor s
  | .closeConfirmation bridge => Sys2Proof.Machine.execCloseConfirmation bridge s
  | .closeTimeout bridge => Sys2Proof.Machine.execCloseTimeout bridge s
  | .openConfirmation bridge => Sys2Proof.Machine.execOpenConfirmation bridge s
  | .openTimeout bridge => Sys2Proof.Machine.execOpenTimeout bridge s
  | .senseDropout bridge => Sys2Proof.Machine.execSenseDropout bridge s
  | .stuckOppositeSense bridge => Sys2Proof.Machine.execStuckOppositeSense bridge s
  | .stuckInParked bridge => Sys2Proof.Machine.execStuckInParked bridge s
  | .stuckEscalation bridge => Sys2Proof.Machine.execStuckEscalation bridge s
  | .powerOnResetStart => Sys2Proof.Machine.execPowerOnResetStart s

end Sys2Proof.Machine
end

