-- ==== Sys2Proof/Safety.lean ====
section
/-! DEFINITION. What counts as a sound state of the part, what a command leaves alone, and how a rise of CS_N answers, in
the terms the statements use. Each law below is a law the manual states "at all times" or a range it gives a field. -/

namespace Sys2Proof

/-- Byte `i` of a frame, byte 1 being the first after the command code (R156). -/
def Clocked.byte (f : Clocked) (i : Nat) : Nat := (f.bytes.getD (i - 1) 0#8).toNat

/-- The big-endian 16-bit number in the bytes `i` and `i + 1` of a frame (R163). -/
def Clocked.word (f : Clocked) (i : Nat) : Nat := 256 * f.byte i + f.byte (i + 1)

end Sys2Proof

namespace Sys2Proof.Machine

/-- The big-endian number in `n` bytes of a payload from byte `at_` on (R163). -/
def field (p : List Byte) (at_ n : Nat) : Nat := ((p.drop at_).take n).foldl (fun v b => 256 * v + b.toNat) 0

/-! ## What stays -/

/-- Everything but the serial command port and the two output lines: the records, the parameters and the notice sets. -/
def State.records (s : State) : State := { s with port := Port.reset, alert := false, faultLine := false }

/-- Everything but the port, the lines, the segment records, the nets and the bridge records. -/
def State.tables (s : State) : State :=
  { s.records with segs := Vector.replicate 16 none, nets := [], bridges := Vector.replicate 4 Bridge.reset }

/-- `h` is `g` but for the fields that a recompute may write: the externally-supervised flag, the alarm, the spot fields,
the pending notices and the repeat flag (section 1.11). -/
def Segment.Kept (g h : Segment) : Prop :=
  h = { g with ext := h.ext, alarm := h.alarm, spot := h.spot, lastSpot := h.lastSpot, pending := h.pending,
               repeated := h.repeated }

/-- `h` is `g` but for its alarm, its pending notices and its repeat flag. -/
def Segment.KeptButAlarm (g h : Segment) : Prop :=
  h = { g with alarm := h.alarm, pending := h.pending, repeated := h.repeated }

/-- `h` is `g` but for the switch sequence: the state with its entry time, phase, crossing flag, counts and drives. -/
def Bridge.Kept (g h : Bridge) : Prop :=
  h = { g with state := h.state, entryTime := h.entryTime, phase := h.phase, crossing := h.crossing,
               timeout := h.timeout, watchP := h.watchP, watchN := h.watchN, drvP := h.drvP, drvN := h.drvN,
               sampled := h.sampled }

/-- Every segment record is DEFINED in `t` exactly when it is in `s`, and each one is kept by the relation. -/
def SegsKept (r : Segment → Segment → Prop) (s t : State) : Prop :=
  ∀ x : SegId, match s.seg x, t.seg x with
    | some g, some h => r g h
    | none, none => True
    | _, _ => False

/-! ## The output lines and the answers -/

/-- Some DEFINED segment with its drive-fault-line option set has alarm FAULT (R140). -/
def State.FaultHeld (s : State) : Prop := ∃ x g, s.seg x = some g ∧ g.drive = true ∧ g.alarm = .fault

/-- Some pending notice kind is enabled, on a DEFINED segment or on the device (R150). -/
def State.AlertHeld (s : State) : Prop :=
  (∃ x g, s.seg x = some g ∧ g.pending &&& g.enables ≠ 0#8) ∨ s.devPending &&& s.devEnables ≠ 0#4

/-- Outside every reset: the supply is valid and RESET_N is HIGH (R169). -/
def State.Running (s : State) : Prop := s.supplyValid = true ∧ s.resetHigh = true

/-- Outside every reset a frame is open, so that a rise of CS_N executes the command of the frame (R155). -/
def State.Ready (s : State) : Prop := s.Running ∧ s.port.frameOpen = true

/-- The port after the rise that ends this frame: CS_N HIGH, SDO at high impedance, the receive buffer as stored (R156), the
slot replaced as a whole (R160), and the bytes that the frame shifted out (R157), as many as the host clocked in. Where the
host's clock idles high, each byte it counts begins one bit later in the output (R155). -/
def Port.closed (p : Port) (early : Bool) (frame : List Byte) (st : Status) (payload : List Byte) : Port :=
  let out := ((p.summary.getD 0#8) :: p.slot.status.code :: p.slot.code :: p.slot.payload).take 64
  { csHigh := true, frameOpen := false, received := frame.take 64, summary := none,
    slot := { status := st, code := frame.headD 0#8, payload := payload }, sdo := none,
    shiftedOut :=
      if early then (List.range frame.length).map fun k => out.getD k 0#8 <<< 1 ||| out.getD (k + 1) 0#8 >>> 7
      else (out ++ List.replicate frame.length 0#8).take frame.length }

/-- The rise that ends the frame is answered with this status and payload; both lines follow their conditions (R140,
R151), and everything else is as in `u`. -/
def State.Completes (s : State) (c : Instr) (frame : List Byte) (st : Status) (payload : List Byte) (u : State) : Prop :=
  ∃ t, exec c s = .next t ∧ t.port = s.port.closed c.early frame st payload ∧ (t.faultLine = true ↔ t.FaultHeld) ∧
    (t.alert = true ↔ t.AlertHeld) ∧ t.records = u.records

/-- The event is taken: the port stays as it is, FAULT_N follows its condition, ALERT_N does so outside an open frame and
is frozen within one (R140, R150, R151), and everything else is as in `u`. -/
def State.Happens (s : State) (c : Instr) (u : State) : Prop :=
  ∃ t, exec c s = .next t ∧ t.port = s.port ∧ (t.faultLine = true ↔ t.FaultHeld) ∧
    (s.port.frameOpen = true → t.alert = s.alert) ∧ (s.port.frameOpen = false → (t.alert = true ↔ t.AlertHeld)) ∧
    t.records = u.records

/-! ## What a bridge watches -/

/-- The bridge watches this side at a 1 ms sample: both sides in DWELL, SETTLING and PARKED and in FAULTED for a timeout, the
opposite side in CLOSING (R70, R72, R74). -/
def Bridge.Watches (b : Bridge) (side : Phase) : Prop :=
  b.state = .parked ∨ b.state = .dwell ∨ b.state = .settling ∨ (b.state = .closing ∧ b.phase ≠ side) ∨
  (b.state = .faulted ∧ (b.cause = some .closeTimeout ∨ b.cause = some .openTimeout))

/-- The bridge expects this side closed: the side of its phase in DWELL and SETTLING (R70). -/
def Bridge.Expects (b : Bridge) (side : Phase) : Prop := (b.state = .dwell ∨ b.state = .settling) ∧ b.phase = side

/-- The sense of a side as last sampled. -/
def Bridge.sense? (b : Bridge) (side : Phase) : Bool := match side with | .p => b.snsP | .n => b.snsN

/-- The watch count of a side. -/
def Bridge.count (b : Bridge) (side : Phase) : Nat := match side with | .p => b.watchP | .n => b.watchN

/-- The source selects the line: EXT0 for the sources EXT0 and EXT0_INV, EXT1 for EXT1 and EXT1_INV, none for OWN (R54). -/
def Source.Selects (src : Source) (line : ExtLine) : Prop :=
  (line = 0 ∧ (src = .ext0 ∨ src = .ext0Inv)) ∨ (line = 1 ∧ (src = .ext1 ∨ src = .ext1Inv))

/-- The line that the source selects reads fault: its filtered level is LOW for a direct source, HIGH for an inverted one
(R54). -/
def State.ReadsFault (s : State) (src : Source) : Prop :=
  (src = .ext0 ∧ (s.ext[0]).level = false) ∨ (src = .ext0Inv ∧ (s.ext[0]).level = true) ∨
  (src = .ext1 ∧ (s.ext[1]).level = false) ∨ (src = .ext1Inv ∧ (s.ext[1]).level = true)

/-- The notices of a change of alarm, by the bits of R171 (R132); none where the alarm stays. -/
def movedBits : Alarm → Alarm → BitVec 8
  | .clear, .warn => 0x20#8
  | .clear, .fault => 0x80#8
  | .warn, .clear => 0x10#8
  | .warn, .fault => 0x90#8
  | .fault, .warn => 0x60#8
  | .fault, .clear => 0x40#8
  | .clear, .clear => 0x00#8
  | .warn, .warn => 0x00#8
  | .fault, .fault => 0x00#8

/-- The record with an alarm and the notices of the change raised (R132, R143). -/
def Segment.movedTo (g : Segment) (a : Alarm) : Segment :=
  { g with alarm := a, pending := g.pending ||| movedBits g.alarm a,
           repeated := g.repeated || g.pending &&& movedBits g.alarm a != 0#8 }

/-- The place of a bridge in the rotation after the last-granted one (R57). -/
def rank (last : Option BridgeId) (b : BridgeId) : Nat :=
  match last with
  | none => b.val
  | some l => (b.val + 3 - l.val) % 4

/-- The bridge a cycle start is granted to: PARKED, in the bridge set, and first in the rotation (R57). -/
def State.Grantee (s : State) (n : Net) (b : BridgeId) : Prop :=
  b ∈ n.bridges ∧ (s.bridge b).state = .parked ∧
  ∀ c ∈ n.bridges, (s.bridge c).state = .parked → rank n.lastGranted b ≤ rank n.lastGranted c

/-- The record of a carried net that a recompute puts into the state of its supervision (R45): QUIET with a new quiet period
(R50), EXTERNAL (R53) or UNMEASURABLE with its reason (R49), with no grant, no pending start and no field of a cycle or a
rest (R80). The last-granted bridge and the last result are kept. -/
def Net.placed (m : Net) (bridges : List BridgeId) (sup : Supervision) (reason : Option Reason) (now : Uptime)
    (quietTime : Nat) : Net :=
  { m with
    bridges := bridges, supervision := sup, reason := reason,
    state := (match sup with | .own => .quiet | .external => .external | .none => .unmeasurable),
    quiet := if sup = .own then some { start := now, length := quietTime, expired := false } else none,
    startPending := false, grant := none, cycleStart := none, phaseP := none, covered := [], confirmation := none,
    window := [], spacing := none }

/-- A carried net that waits meets the test a recompute makes with these bridges in its set: QUIET with its timer expired
and every bridge PARKED or FAULTED (R51), or REST with its start pending and a PARKED bridge (R58). A quiet timer whose
expiry was not taken counts as expired from the next millisecond on (assumption log 10). -/
def State.WaitIsOver (s : State) (m : Net) (bridges : List BridgeId) : Prop :=
  (m.state = .quiet ∧ (∃ q, m.quiet = some q ∧ (q.expired = true ∨ q.length < (s.uptime - q.start).toNat)) ∧
    ∀ b ∈ bridges, (s.bridge b).state = .parked ∨ (s.bridge b).state = .faulted) ∨
  (m.state = .rest ∧ m.startPending = true ∧ ∃ b ∈ bridges, (s.bridge b).state = .parked)

/-! ## Laws of the part -/

/-- FAULT_N is asserted exactly when some DEFINED segment with its drive-fault-line option set has alarm FAULT, and
released in a reset (R140, R141); ALERT_N follows its condition outside an open frame and is released in a reset
(R150, R154). -/
def State.LinesFollow (s : State) : Prop :=
  (s.faultLine = true ↔ s.Running ∧ s.FaultHeld) ∧
  (¬ s.Running → s.alert = false) ∧
  (s.Running → s.port.frameOpen = false → (s.alert = true ↔ s.AlertHeld))

/-- Every DEFINED link joins two distinct DEFINED segments (R23). -/
def State.LinksJoinSegments (s : State) : Prop :=
  ∀ i l, s.link i = some l → (s.seg l.endA).isSome ∧ (s.seg l.endB).isSome ∧ l.endA ≠ l.endB

/-- The attached segment of a bridge and the attached bridge of a segment name each other (R76): each bridge is attached
to at most one segment and each segment has at most one bridge. -/
def State.AttachmentsAgree (s : State) : Prop :=
  ∀ b x, (s.bridge b).attached = some x ↔ ∃ g, s.seg x = some g ∧ g.bridge = some b

/-- The nets are the connected components of the DEFINED segments, each under its lowest member id (R41). -/
def State.NetsAreComponents (s : State) : Prop :=
  s.nets.map (·.members) = s.components ∧ ∀ n ∈ s.nets, n.members.head? = some n.anchor

/-- The held net records as a recompute finds them, whatever has changed in the tables since they were derived: member
sets that are not empty, ascending, each anchored at its lowest id, and pairwise disjoint (R41). -/
def State.NetsApart (s : State) : Prop :=
  (∀ n ∈ s.nets, n.members ≠ [] ∧ n.members.Pairwise (· < ·) ∧ n.members.head? = some n.anchor) ∧
  s.nets.Pairwise fun m n => ∀ x, x ∈ m.members → x ∉ n.members

/-- Two DEFINED segments are the ends of a DEFINED link that is effectively CLOSED (R41). -/
def State.Adjacent (s : State) (x y : SegId) : Prop :=
  ∃ i l, s.link i = some l ∧ l.effective = .closed ∧ (s.seg l.endA).isSome ∧ (s.seg l.endB).isSome ∧
    ((l.endA = x ∧ l.endB = y) ∨ (l.endA = y ∧ l.endB = x))

/-- A drive is on only in CLOSING, DWELL or SETTLING, and only on the side of the bridge's phase (R67, section 4.5). -/
def Bridge.DrivesSafe (b : Bridge) : Prop :=
  ((b.drvP = true ∨ b.drvN = true) → b.state = .closing ∨ b.state = .dwell ∨ b.state = .settling) ∧
  (b.drvP = true → b.phase = .p) ∧ (b.drvN = true → b.phase = .n)

/-- A bridge holds a fault cause exactly while it is FAULTED and a crossing flag only in OPENING (section 4.2), its cause is
TRIM exactly when its last trim check failed, and it holds reference conductances exactly when that check passed (R62, R63),
its counts run from 0 to 20, and its samples lie in 0 to 16000 dV. -/
def Bridge.Sound (b : Bridge) : Prop :=
  b.DrivesSafe ∧ (b.cause.isSome ↔ b.state = .faulted) ∧ (b.crossing = true → b.state = .opening) ∧
  (b.cause = some .trim ↔ b.trimPassed = false) ∧ (b.references.isSome ↔ b.trimPassed = true) ∧
  b.timeout ≤ 20 ∧ b.watchP ≤ 20 ∧ b.watchN ≤ 20 ∧ b.up ≤ 16000 ∧ b.un ≤ 16000

/-- The fields of a DEFINED segment record lie in their ranges and agree with each other. -/
structure Segment.Sound (g : Segment) : Prop where
  /-- the clamped ranges (R2) -/
  vMax : 100 ≤ g.vMax ∧ g.vMax ≤ 1500
  faultFactor : 50 ≤ g.faultFactor ∧ g.faultFactor ≤ 2000
  warnFactor : g.faultFactor ≤ g.warnFactor ∧ g.warnFactor ≤ 5000
  validity : 1 ≤ g.validity ∧ g.validity ≤ 65535
  /-- the thresholds are those of the declared properties (R5) -/
  thresholds : g.thresholds = thresholdsOf g.vMax g.faultFactor g.warnFactor
  /-- every stored conductance lies in 0 to G_MAX (R106) -/
  conductances : g.gp ≤ 100000000 ∧ g.gn ≤ 100000000
  /-- a record of quality NONE holds no values, no expiry moment and is not stale (R11, R14) -/
  unmeasured : g.quality = .none → g.gp = 0 ∧ g.gn = 0 ∧ g.expiry = none ∧ g.stale = false
  /-- a stale record holds no expiry moment (R12) -/
  stale : g.stale = true → g.expiry = none
  /-- the alarm is WARN only while a warn enable is set (R129) -/
  warn : g.alarm = .warn → warnComparator g.enables = true
  /-- a held low-water mark lies in 10 to 100,000 kΩ (R15) -/
  lowMark : ∀ m, g.lowMark = some m → 10 ≤ m ∧ m ≤ 100000

/-- Every DEFINED segment record is sound. -/
def State.SegmentsSound (s : State) : Prop := ∀ x g, s.seg x = some g → g.Sound

/-- Every bridge record is sound. -/
def State.BridgesSound (s : State) : Prop := ∀ b, (s.bridge b).Sound

/-- The timing parameters lie in their ranges, the max dwell at least 100 ms above the min dwell (R31, R36, R52, R96,
R108). -/
def Timing.Sound (t : Timing) : Prop :=
  (50 ≤ t.minDwell ∧ t.minDwell ≤ 2000) ∧ (t.minDwell + 100 ≤ t.maxDwell ∧ t.maxDwell ≤ 20000) ∧
  (1 ≤ t.epsilon ∧ t.epsilon ≤ 200) ∧ t.spacing ≤ 60000 ∧ (50 ≤ t.quiet ∧ t.quiet ≤ 5000) ∧
  (1 ≤ t.debounce ∧ t.debounce ≤ 100) ∧ (20 ≤ t.agreement ∧ t.agreement ≤ 2000) ∧
  (100 ≤ t.lowVoltage ∧ t.lowVoltage ≤ 2000)

/-- The effective state of every DEFINED link is the one its mode gives, and only a CHECKED link holds a disagreement,
exactly while its declared and sensed states differ (R25, R33). -/
def Link.Sound (l : Link) : Prop :=
  l.effective = effectiveOf l.mode l.declared l.sensed ∧
  (l.disagreeFlag = true → l.disagreeStart.isSome) ∧
  (l.disagreeStart.isSome ↔ l.mode = .checked ∧ l.sensed ≠ some l.declared)

/-- Every DEFINED link record is sound. -/
def State.LinksSound (s : State) : Prop := ∀ i l, s.link i = some l → l.Sound

/-- A DECLARED link has no aux line, no polarity and no sensed state; the sensed state of a SENSED or CHECKED link follows
the filtered level of its aux line through its polarity (R24, R32). -/
def State.LinksFollowLines (s : State) : Prop :=
  ∀ i l, s.link i = some l →
    (l.mode = .declared → l.aux = none ∧ l.polarity = none ∧ l.sensed = none) ∧
    (l.mode ≠ .declared → ∃ a pol, l.aux = some a ∧ l.polarity = some pol ∧
      l.sensed = some (if (s.aux[a]).level = true ↔ pol = .normallyOpen then .closed else .opened))

/-- A net's state goes with its supervision (R40), it holds a grant exactly in PHASE_P, PHASE_N and RELEASE (R58), a
reason exactly in UNMEASURABLE, a quiet period exactly in QUIET, and a pending start only in REST. -/
def Net.Sound (n : Net) : Prop :=
  (n.supervision = .external ↔ n.state = .external) ∧
  (n.supervision = .none ↔ n.state = .unmeasurable) ∧
  (n.grant.isSome ↔ n.state = .phaseP ∨ n.state = .phaseN ∨ n.state = .release) ∧
  (n.reason.isSome ↔ n.state = .unmeasurable) ∧
  (n.quiet.isSome ↔ n.state = .quiet) ∧
  (n.startPending = true → n.state = .rest)

/-- Every net record is sound. -/
def State.NetsSound (s : State) : Prop := ∀ n ∈ s.nets, n.Sound

/-- The fields of a cycle are held exactly while their cycle, phase or rest needs them (R80). -/
structure Net.CycleSound (n : Net) : Prop where
  /-- the cycle start from the grant to the end of RELEASE -/
  cycleStart : n.cycleStart.isSome ↔ n.state = .phaseP ∨ n.state = .phaseN ∨ n.state = .release
  /-- the phase-P values from the end of phase P to the end of the cycle -/
  phaseP : n.phaseP.isSome ↔ n.state = .phaseN
  /-- the spacing in REST, until a start that finds no PARKED bridge is pending (R90) -/
  spacing : n.spacing.isSome ↔ n.state = .rest ∧ n.startPending = false
  /-- covered spots, all of members, from the grant to the end of the cycle -/
  covered : ∀ x ∈ n.covered, x ∈ n.members ∧ (n.state = .phaseP ∨ n.state = .phaseN)
  /-- the settle window: up to eight samples (R84) -/
  window : n.window.length ≤ 8
  /-- the granted bridge is in the bridge set, and the last-granted one (R45, R57) -/
  grant : ∀ b, n.grant = some b → b ∈ n.bridges ∧ n.lastGranted = some b

/-- The switch of a side is commanded closed, and is closing, dwelling or settling. -/
def Bridge.Serves (b : Bridge) (side : Phase) : Prop :=
  (b.state = .closing ∨ b.state = .dwell ∨ b.state = .settling) ∧ b.phase = side

/-- The state of a granted bridge is one that the state of its net allows, the net holds a confirmation time with the
captured parameters exactly from the bridge's DWELL on to the end of the phase (R82), and a settle window only in SETTLING
(the tables of section 5.1). -/
def Net.Paced (n : Net) (b : Bridge) : Prop :=
  (n.state = .phaseP → b.Serves .p) ∧
  (n.state = .phaseN → (b.state = .opening ∧ b.crossing = true) ∨ b.Serves .n) ∧
  (n.state = .release → b.state = .opening ∧ b.crossing = false) ∧
  (n.confirmation.isSome ↔ n.inProgress = true ∧ (b.state = .dwell ∨ b.state = .settling)) ∧
  (n.window ≠ [] → b.state = .settling)

/-- Every net holds the fields its cycle needs and keeps pace with its granted bridge; with no grant it holds no
confirmation and no window (R80). -/
def State.CyclesHeld (s : State) : Prop :=
  ∀ n ∈ s.nets, n.CycleSound ∧ (∀ b, n.grant = some b → n.Paced (s.bridge b)) ∧
    (n.grant = none → n.confirmation = none ∧ n.window = [])

/-- A drive is on only on the granted bridge of an OWN net in PHASE_P or PHASE_N, and a crossover is under way only on
the granted bridge of a net in PHASE_N (R67, R87). -/
def State.GrantsHeld (s : State) : Prop :=
  (∀ b, ((s.bridge b).drvP = true ∨ (s.bridge b).drvN = true) →
    ∃ n ∈ s.nets, n.grant = some b ∧ n.supervision = .own ∧ n.inProgress = true) ∧
  (∀ b, (s.bridge b).crossing = true → ∃ n ∈ s.nets, n.grant = some b ∧ n.state = .phaseN)

/-- The supervision of a net and its reason are those the first matching condition of R48 gives: a member with an EXT
source, a STUCK bridge, an eligible bridge, only FAULTED bridges, no bridge. -/
def State.Supervises (s : State) (n : Net) : Prop :=
  ∀ ext stuck eligible : Prop,
    (ext ↔ ∃ x ∈ n.members, ∃ g, s.seg x = some g ∧ g.source ≠ .own) →
    (stuck ↔ ∃ b ∈ n.bridges, (s.bridge b).state = .faulted ∧ (s.bridge b).cause = some .stuck) →
    (eligible ↔ ∃ b ∈ n.bridges, (s.bridge b).state ≠ .faulted) →
    (n.supervision = .external ↔ ext) ∧
    (n.supervision = .own ↔ ¬ ext ∧ ¬ stuck ∧ eligible) ∧
    (n.reason = some .stuckBridge ↔ ¬ ext ∧ stuck) ∧
    (n.reason = some .allFaulted ↔ ¬ ext ∧ ¬ stuck ∧ ¬ eligible ∧ n.bridges ≠ []) ∧
    (n.reason = some .noBridge ↔ ¬ ext ∧ n.bridges = [])

/-- Every net follows the tables: its bridge set holds the bridges attached to its members (R43), its supervision is that
of R48, the externally-supervised flag of a member is set exactly when the net is EXTERNAL (R53), and no spot of a member
is pending when it is EXTERNAL or UNMEASURABLE (R47). -/
def State.NetsFollowTables (s : State) : Prop :=
  ∀ n ∈ s.nets,
    (∀ b, b ∈ n.bridges ↔ ∃ x ∈ n.members, (s.bridge b).attached = some x) ∧ s.Supervises n ∧
    ∀ x ∈ n.members, ∀ g, s.seg x = some g →
      (g.ext = true ↔ n.state = .external) ∧ (n.state = .external ∨ n.state = .unmeasurable → g.spot = none)

/-- The laws of the nets and of the bridges together. -/
def State.SwitchLaws (s : State) : Prop :=
  s.NetsAreComponents ∧ s.NetsSound ∧ s.BridgesSound ∧ s.GrantsHeld

/-- Every law together. -/
def State.Sound (s : State) : Prop :=
  s.LinesFollow ∧ s.LinksJoinSegments ∧ s.AttachmentsAgree ∧ s.SwitchLaws ∧ s.NetsFollowTables ∧ s.CyclesHeld ∧
  s.SegmentsSound ∧ s.LinksSound ∧ s.LinksFollowLines ∧ s.timing.Sound

end Sys2Proof.Machine
end

