-- ==== Sys2Proof/Certificates/Slice0/Obligations.lean ====
section
/-! DEFINITION. The statements about the model. `State.Completes`, `State.Happens` and the laws are those of
Sys2Proof/Safety.lean: in a `Completes` the frame's rise answers a next state with this status, this payload and every
record as in the state named last; a `Happens` says the same of an event. Both therefore say that the command completes,
what it changes, and that it changes nothing else. -/

open Sys2Proof Sys2Proof.Machine

/-! ## The step and the port -/

/-- The step takes the command at the front of the queue and answers what it does; with none waiting the block idles, which
is the model's choice (assumption log 6). -/
def Obligations.StepRunsFrontCommand : Prop :=
  (∀ (s : State) (c : Instr) (rest : List Instr), s.pending = c :: rest → step s = exec c { s with pending := rest }) ∧
  (∀ s : State, s.pending = [] → step s = .next s)

/-- Every well-formed command completes in every state and leaves the queue alone (R161); a term that is not the row
UNKNOWN_COMMAND although it is built by its constructor is refused, which is the model's choice (assumption log 16). -/
def Obligations.EveryCommandAnswers : Prop :=
  ∀ (c : Instr) (s : State),
    (c.wf = true → ∃ t, exec c s = .next t ∧ t.pending = s.pending) ∧
    (∀ code f, c = .unknownCommand code f → unknownFrame code f = false → exec c s = .refused .notAnUnknownCommand)

/-- A fall of CS_N outside a reset opens a frame, empties the receive buffer and captures the summary byte, whose bits are
those of R158; in a reset no frame opens (R169). That a fall with CS_N LOW already has no effect is the model's choice
(assumption log 8). -/
def Obligations.ChipSelectFallOpensFrame : Prop :=
  ∀ s : State,
    (s.port.csHigh = true → s.Running →
      ∃ b : Byte,
        exec .chipSelectFall s = .next { s with port := { s.port with
          csHigh := false, frameOpen := true, received := [], summary := some b, sdo := some (b.getLsbD 7) } } ∧
        ((∃ x g, s.seg x = some g ∧ g.alarm = .fault) → b.toNat / 64 = 2) ∧
        ((∀ x g, s.seg x = some g → g.alarm ≠ .fault) → (∃ x g, s.seg x = some g ∧ g.alarm = .warn) →
          b.toNat / 64 = 1) ∧
        ((∀ x g, s.seg x = some g → g.alarm = .clear) → b.toNat / 64 = 0) ∧
        (b.getLsbD 5 = true ↔ s.AlertHeld) ∧
        (b.getLsbD 4 = true ↔ s.port.slot.status = .ok ∨ s.port.slot.status = .clamped) ∧
        (b.getLsbD 3 = true ↔ ∃ n ∈ s.nets, n.state = .quiet) ∧
        (b.getLsbD 2 = true ↔ ∃ r, (s.bridge r).state = .faulted) ∧
        (b.getLsbD 1 = true ↔ ∃ x g, s.seg x = some g ∧ g.stale = true) ∧
        (b.getLsbD 0 = true ↔ ∃ i l, s.link i = some l ∧ l.disagreeFlag = true)) ∧
    (s.port.csHigh = true → ¬ s.Running → exec .chipSelectFall s = .next { s with port := { s.port with csHigh := false } }) ∧
    (s.port.csHigh = false → exec .chipSelectFall s = .next s)

/-- While a frame stays open, no command changes the captured summary byte or the response slot, and ALERT_N keeps its value
(R151, R157, R158, R161). That the receive buffer and SDO stay as they were too, until the rise, is the model's choice:
it has no row for the clock edges at which R155 and R156 move them (assumption log 8). -/
def Obligations.OpenFrameFreezesPortAndAlert : Prop :=
  ∀ (c : Instr) (s t : State), s.Ready → s.port.csHigh = false → exec c s = .next t → t.port.frameOpen = true →
    t.port = s.port ∧ t.alert = s.alert

/-- The rises that execute nothing: steps 1 to 3 of R159 over an open frame, and every rise in a reset (R169) or with no
frame open. That such a rise over no open frame sets CS_N HIGH and does nothing else, with CS_N HIGH already too, is the
model's choice (assumption log 8). -/
def Obligations.RisesThatExecuteNothing : Prop :=
  ∀ (c : Instr) (s : State) (frame : List Byte) (tail : List Bool) (early : Bool),
    frameOf c = some (frame, tail, early) → c.wf = true →
    (s.Ready → frame = [] → s.Completes c [] .shortFrame [] s) ∧
    (s.Ready → ∀ code rest, frame = code :: rest → commandLength code = none →
      s.Completes c frame .unknownCommand [] s) ∧
    (s.Ready → ∀ code rest n, frame = code :: rest → commandLength code = some n → rest.length + 1 < n →
      s.Completes c frame .shortFrame [] s) ∧
    (¬ s.Ready → exec c s = .next { s with port := { s.port with csHigh := true } })

/-- NO OPERATION (R164). -/
def Obligations.NoOperation : Prop :=
  ∀ (f : Clocked) (s : State), s.Ready → 1 ≤ f.bytes.length →
    s.Completes (.noOperation f) (0x00#8 :: f.bytes) .ok [] s

/-- A refused or unexecuted frame, that is one whose status is neither OK nor CLAMPED, changes no record, no enable and no
timing parameter and raises no notice (R162). -/
def Obligations.RefusedCommandChangesNoRecord : Prop :=
  ∀ (c : Instr) (s t : State) (frame : List Byte) (tail : List Bool) (early : Bool),
    frameOf c = some (frame, tail, early) → s.Ready → exec c s = .next t → t.port.slot.status ≠ .ok → t.port.slot.status ≠ .clamped → t.records = s.records

/-- The bytes of a command that ends a frame decode to that command again: no byte, no bit and no idle level of the
clock is dropped (R155, R156, R159). The status codes and the codes of the enumerated fields are those of R171, and a
field byte names the value of its code and no other byte does. The command lengths and the bits of the notice masks and
pending sets are those of R171 too. -/
def Obligations.FrameRoundTrip : Prop :=
  (∀ (c : Instr) (frame : List Byte) (tail : List Bool) (early : Bool), c.wf = true →
    frameOf c = some (frame, tail, early) →
    (∀ f raw, c = .restart f raw → decodeFrame frame tail early raw = c) ∧
    ((∀ f raw, c ≠ .restart f raw) → ∀ raw, decodeFrame frame tail early raw = c)) ∧
  ([Status.ok, .clamped, .nothing].map Status.code = [0x00#8, 0x01#8, 0x02#8] ∧
    [Status.unknownCommand, .shortFrame, .badTarget, .notDefined, .alreadyDefined, .linked, .sameEnds, .bridgeTaken,
      .wrongMode, .noMeasurement, .external, .notFaulted, .stillFaulty, .trimInvalid, .badValue].map Status.code =
      [0x10#8, 0x11#8, 0x12#8, 0x13#8, 0x14#8, 0x15#8, 0x16#8, 0x17#8, 0x18#8, 0x19#8, 0x1A#8, 0x1B#8, 0x1C#8, 0x1D#8,
        0x1E#8] ∧
    [Source.own, .ext0, .ext0Inv, .ext1, .ext1Inv].map Source.code = [0, 1, 2, 3, 4] ∧
    [Quality.none, .shared, .derived, .direct].map Quality.code = [0, 1, 2, 3] ∧
    [Alarm.clear, .warn, .fault].map Alarm.code = [0, 1, 2] ∧
    [CycleOutcome.valid, .degraded, .overRange, .lowVoltage, .unsteady, .indeterminate, .abandoned, .bridgeFault,
      .noMeasurement, .external].map CycleOutcome.code = [0, 1, 2, 3, 4, 5, 6, 7, 8, 9] ∧
    [Supervision.own, .external, .none].map Supervision.code = [0, 1, 2] ∧
    [NetState.unmeasurable, .external, .quiet, .rest, .phaseP, .phaseN, .release].map NetState.code =
      [0, 1, 2, 3, 4, 5, 6] ∧
    [Reason.noBridge, .stuckBridge, .allFaulted].map Reason.code = [1, 2, 3] ∧
    [Verdict.ok, .fault].map Verdict.code = [0, 1] ∧
    [BridgeState.parked, .closing, .dwell, .settling, .opening, .faulted].map BridgeState.code = [0, 1, 2, 3, 4, 5] ∧
    [FaultCause.trim, .closeTimeout, .openTimeout, .stuck].map FaultCause.code = [1, 2, 3, 4] ∧
    [Phase.p, .n].map Phase.code = [0, 1] ∧ [LinkMode.declared, .sensed, .checked].map LinkMode.code = [0, 1, 2] ∧
    [Polarity.normallyOpen, .normallyClosed].map Polarity.code = [0, 1] ∧
    [Contact.opened, .closed].map Contact.code = [0, 1]) ∧
  (∀ b : Byte, (∀ v, sourceOfByte b = some v ↔ v.code = b.toNat) ∧ (∀ v, modeOfByte b = some v ↔ v.code = b.toNat) ∧
    (∀ v, polarityOfByte b = some v ↔ v.code = b.toNat) ∧ (∀ v, contactOfByte b = some v ↔ v.code = b.toNat)) ∧
  ([SegNotice.faultEnter, .faultExit, .warnEnter, .warnExit, .stale, .netChange, .spotDone, .inconsistent].map
      SegNotice.bit = [0x80#8, 0x40#8, 0x20#8, 0x10#8, 0x08#8, 0x04#8, 0x02#8, 0x01#8] ∧
    [DevNotice.bridgeFault, .linkDisagree, .trimFault, .restarted].map DevNotice.bit = [8#4, 4#4, 2#4, 1#4] ∧
    ∀ b : Byte, commandLength b =
      ([(0x00, 2), (0x10, 2), (0x11, 2), (0x12, 2), (0x13, 2), (0x14, 2), (0x15, 2), (0x16, 2), (0x20, 12), (0x21, 12),
        (0x22, 2), (0x23, 2), (0x24, 2), (0x28, 2), (0x30, 8), (0x31, 2), (0x32, 3), (0x38, 3), (0x39, 2), (0x3A, 2),
        (0x40, 3), (0x41, 3), (0x50, 18), (0x5A, 2)] : List (Nat × Nat)).lookup b.toNat)

/-! ## The reads -/

/-- READ SUMMARY (R165) and its payload of 28 bytes. -/
def Obligations.ReadSummaryReports : Prop :=
  ∀ (f : Clocked) (s : State), s.Ready → 1 ≤ f.bytes.length →
    ∃ p, s.Completes (.readSummary f) (0x10#8 :: f.bytes) .ok p s ∧ p.length = 28 ∧
      field p 0 4 = s.uptime.toNat ∧ p[4]? = some s.summaryByte ∧
      (∀ x : SegId, (field p 5 2).testBit x.val = (s.seg x).isSome) ∧
      (∀ l : LinkId, (field p 7 3).testBit l.val = (s.link l).isSome) ∧
      field p 10 2 = s.timing.minDwell % 65536 ∧ field p 12 2 = s.timing.maxDwell % 65536 ∧
      field p 14 2 = s.timing.epsilon % 65536 ∧ field p 16 2 = s.timing.spacing % 65536 ∧
      field p 18 2 = s.timing.quiet % 65536 ∧ field p 20 2 = s.timing.debounce % 65536 ∧
      field p 22 2 = s.timing.agreement % 65536 ∧ field p 24 2 = s.timing.lowVoltage % 65536 ∧
      (∀ i : AuxLine, (field p 26 2).testBit i.val = (s.aux[i]).level) ∧
      (∀ i : ExtLine, (field p 26 2).testBit (12 + i.val) = (s.ext[i]).level) ∧ field p 26 2 < 2 ^ 14

/-- READ SEGMENT (R19): its refusals, and the 57 bytes of its payload. -/
def Obligations.ReadSegmentReports : Prop :=
  ∀ (f : Clocked) (s : State), s.Ready → 1 ≤ f.bytes.length →
    (15 < f.byte 1 → s.Completes (.readSegment f) (0x11#8 :: f.bytes) .badTarget [] s) ∧
    (∀ x : SegId, f.byte 1 = x.val →
      (s.seg x = none → s.Completes (.readSegment f) (0x11#8 :: f.bytes) .notDefined [] s) ∧
      (∀ g, s.seg x = some g →
        ∃ p, s.Completes (.readSegment f) (0x11#8 :: f.bytes) .ok p s ∧ p.length = 57 ∧
          field p 0 2 = g.vMax % 65536 ∧ field p 2 2 = g.faultFactor % 65536 ∧ field p 4 2 = g.warnFactor % 65536 ∧
          field p 6 2 = g.validity % 65536 ∧ field p 8 1 = g.source.code ∧
          field p 9 1 = (if g.latch then 1 else 0) + (if g.drive then 2 else 0) ∧
          field p 10 1 = (g.bridge.map (·.val)).getD 255 ∧
          field p 11 1 = ((s.netOf x).map (·.anchor.val)).getD 255 ∧ field p 12 1 = g.quality.code ∧
          field p 13 4 = g.gp % 2 ^ 32 ∧ field p 17 4 = g.gn % 2 ^ 32 ∧
          field p 21 4 = resistance (max g.gp g.gn) ∧ field p 25 4 = (s.uptime - g.attrTime).toNat ∧
          field p 29 1 = (if g.stale then 1 else 0) + (if g.ext then 2 else 0) + (if g.degraded then 4 else 0)
            + (if g.spot.isSome then 8 else 0) + (if g.lowMark.isSome then 16 else 0) ∧
          field p 30 1 = g.alarm.code ∧ field p 31 4 = g.thresholds.faultOn % 2 ^ 32 ∧
          field p 35 4 = g.thresholds.faultOff % 2 ^ 32 ∧ field p 39 4 = g.thresholds.warnOn % 2 ^ 32 ∧
          field p 43 4 = g.thresholds.warnOff % 2 ^ 32 ∧ field p 47 4 = (g.lowMark.getD 0) % 2 ^ 32 ∧
          field p 51 4 = (g.spot.map fun t => (s.uptime - t).toNat).getD 0 ∧
          field p 55 1 = (g.lastSpot.map (·.code)).getD 255 ∧ p[56]? = some g.enables))

/-- READ NET (R59): its refusals, and the 43 bytes of its payload. The net is the one that holds the target; every DEFINED
segment has one (R41). -/
def Obligations.ReadNetReports : Prop :=
  ∀ (f : Clocked) (s : State), s.Ready → 1 ≤ f.bytes.length →
    (15 < f.byte 1 → s.Completes (.readNet f) (0x12#8 :: f.bytes) .badTarget [] s) ∧
    (∀ x : SegId, f.byte 1 = x.val →
      (s.seg x = none → s.Completes (.readNet f) (0x12#8 :: f.bytes) .notDefined [] s) ∧
      (∀ g n, s.seg x = some g → s.netOf x = some n →
        ∃ p, s.Completes (.readNet f) (0x12#8 :: f.bytes) .ok p s ∧ p.length = 43 ∧
          field p 0 1 = n.anchor.val ∧ (∀ y : SegId, (field p 1 2).testBit y.val = n.members.contains y) ∧
          (∀ b : BridgeId, (field p 3 1).testBit b.val = n.bridges.contains b) ∧
          (∀ b : BridgeId, field p (4 + b.val) 1 = if b ∈ n.bridges then (s.bridge b).state.code else 255) ∧
          field p 8 1 = n.supervision.code ∧ field p 9 1 = n.state.code ∧
          field p 10 1 = (n.reason.map (·.code)).getD 0 ∧
          field p 11 2 = ((n.quiet.map fun q => q.length - (s.uptime - q.start).toNat).getD 0) % 65536 ∧
          field p 13 1 = (if n.startPending then 1 else 0) + (if n.phaseP.isSome then 2 else 0)
            + (if n.phaseP.any (·.overRange) then 4 else 0) + (if n.phaseP.any (·.unsettled) then 8 else 0)
            + (if n.cycleStart.isSome then 16 else 0) ∧
          field p 14 1 = (n.lastGranted.map (·.val)).getD 255 ∧ field p 15 1 = (n.grant.map (·.val)).getD 255 ∧
          field p 16 4 = (n.cycleStart.map fun t => (s.uptime - t).toNat).getD 0 ∧
          field p 20 2 = ((n.phaseP.map (·.up)).getD 0) % 65536 ∧
          field p 22 2 = ((n.phaseP.map (·.un)).getD 0) % 65536 ∧
          field p 24 1 = (n.lastResult.map (·.outcome.code)).getD 255 ∧
          field p 25 4 = ((n.lastResult.bind (·.gp)).getD 0) % 2 ^ 32 ∧
          field p 29 4 = ((n.lastResult.bind (·.gn)).getD 0) % 2 ^ 32 ∧
          field p 33 2 = ((n.lastResult.bind (·.s1)).getD 0) % 65536 ∧
          field p 35 2 = ((n.lastResult.bind (·.s2)).getD 0) % 65536 ∧
          field p 37 4 = (n.lastResult.map fun r => (s.uptime - r.time).toNat).getD 0 ∧
          field p 41 1 = (if n.state = .external then (s.verdict n.members).code else 255) ∧
          field p 42 1 = (if (s.ext[0]).level then 1 else 0) + (if (s.ext[1]).level then 2 else 0)))

/-- READ LINK (R37): its refusals, and the 13 bytes of its payload. Nothing is said of byte 6 in DECLARED mode, where the
sensed state is none and the manual gives no code (assumption log 4). -/
def Obligations.ReadLinkReports : Prop :=
  ∀ (f : Clocked) (s : State), s.Ready → 1 ≤ f.bytes.length →
    (23 < f.byte 1 → s.Completes (.readLink f) (0x13#8 :: f.bytes) .badTarget [] s) ∧
    (∀ i : LinkId, f.byte 1 = i.val →
      (s.link i = none → s.Completes (.readLink f) (0x13#8 :: f.bytes) .notDefined [] s) ∧
      (∀ l, s.link i = some l →
        ∃ p, s.Completes (.readLink f) (0x13#8 :: f.bytes) .ok p s ∧ p.length = 13 ∧
          field p 0 1 = l.endA.val ∧ field p 1 1 = l.endB.val ∧ field p 2 1 = l.mode.code ∧
          field p 3 1 = (l.aux.map (·.val)).getD 255 ∧ field p 4 1 = (l.polarity.map (·.code)).getD 255 ∧
          field p 5 1 = l.declared.code ∧ (∀ c, l.sensed = some c → field p 6 1 = c.code) ∧
          field p 7 1 = l.effective.code ∧
          field p 8 1 = (if l.disagreeFlag then 1 else 0) + (if l.disagreeStart.isSome then 2 else 0)
            + (if l.aux.any (fun a => (s.aux[a]).level) then 4 else 0) ∧
          field p 9 4 = (l.disagreeStart.map fun t => (s.uptime - t).toNat).getD 0))

/-- READ BRIDGE (R78): its refusal, and the 13 bytes of its payload. -/
def Obligations.ReadBridgeReports : Prop :=
  ∀ (f : Clocked) (s : State), s.Ready → 1 ≤ f.bytes.length →
    (3 < f.byte 1 → s.Completes (.readBridge f) (0x14#8 :: f.bytes) .badTarget [] s) ∧
    (∀ b : BridgeId, f.byte 1 = b.val →
      ∃ p, s.Completes (.readBridge f) (0x14#8 :: f.bytes) .ok p s ∧ p.length = 13 ∧
        field p 0 1 = (s.bridge b).state.code ∧ field p 1 1 = (s.bridge b).phase.code ∧
        field p 2 1 = (if (s.bridge b).crossing then 1 else 0) + (if (s.bridge b).drvP then 2 else 0)
          + (if (s.bridge b).drvN then 4 else 0) + (if (s.bridge b).snsP then 8 else 0)
          + (if (s.bridge b).snsN then 16 else 0) + (if (s.bridge b).overRange then 32 else 0) ∧
        field p 3 4 = (s.uptime - (s.bridge b).entryTime).toNat ∧
        field p 7 1 = ((s.bridge b).attached.map (·.val)).getD 255 ∧
        field p 8 1 = ((s.bridge b).cause.map (·.code)).getD 0 ∧
        field p 9 2 = (s.bridge b).up % 65536 ∧ field p 11 2 = (s.bridge b).un % 65536)

/-- READ TRIM (R167): its refusal, and the 17 bytes of its payload. A gain word that 16 bits do not hold is a free value
(assumption log 5), of which nothing is said. -/
def Obligations.ReadTrimReports : Prop :=
  ∀ (f : Clocked) (s : State), s.Ready → 1 ≤ f.bytes.length →
    (3 < f.byte 1 → s.Completes (.readTrim f) (0x16#8 :: f.bytes) .badTarget [] s) ∧
    (∀ b : BridgeId, f.byte 1 = b.val →
      ∃ p, s.Completes (.readTrim f) (0x16#8 :: f.bytes) .ok p s ∧ p.length = 17 ∧
        field p 0 2 = (s.bridge b).trim.refP.toNat ∧ field p 2 2 = (s.bridge b).trim.refN.toNat ∧
        ((s.bridge b).trim.gainP.toNat < 65536 → field p 4 2 = (s.bridge b).trim.gainP.toNat) ∧
        ((s.bridge b).trim.gainN.toNat < 65536 → field p 6 2 = (s.bridge b).trim.gainN.toNat) ∧
        field p 8 1 = (if (s.bridge b).trimPassed then 0 else 1) ∧
        field p 9 4 = (((s.bridge b).references.map (·.grP)).getD 0) % 2 ^ 32 ∧
        field p 13 4 = (((s.bridge b).references.map (·.grN)).getD 0) % 2 ^ 32)

/-! ## Notices, timing, resets -/

/-- READ NOTICES (R144, R145): its refusals, and for each of its three targets what it captures and what it clears. -/
def Obligations.ReadNoticesCapturesAndClears : Prop :=
  ∀ (f : Clocked) (s : State), s.Ready → 1 ≤ f.bytes.length →
    (15 < f.byte 1 → f.byte 1 < 254 → s.Completes (.readNotices f) (0x15#8 :: f.bytes) .badTarget [] s) ∧
    (∀ x : SegId, f.byte 1 = x.val →
      (s.seg x = none → s.Completes (.readNotices f) (0x15#8 :: f.bytes) .notDefined [] s) ∧
      (∀ g, s.seg x = some g →
        s.Completes (.readNotices f) (0x15#8 :: f.bytes) .ok
          [g.pending, if g.repeated then 1#8 else 0#8, g.enables]
          (s.setSeg x (some { g with pending := 0#8, repeated := false })))) ∧
    (f.byte 1 = 255 →
      ∃ p, s.Completes (.readNotices f) (0x15#8 :: f.bytes) .ok p
          (s.mapSegs fun _ g => { g with pending := 0#8, repeated := false }) ∧ p.length = 18 ∧
        (∀ x : SegId, p[x.val]? = some (((s.seg x).map (·.pending)).getD 0#8)) ∧
        (∀ x : SegId, (field p 16 2).testBit x.val = (s.seg x).any (·.repeated))) ∧
    (f.byte 1 = 254 →
      s.Completes (.readNotices f) (0x15#8 :: f.bytes) .ok
        [s.devPending.setWidth 8, if s.devRepeated then 1#8 else 0#8, s.devEnables.setWidth 8]
        { s with devPending := 0#4, devRepeated := false })

/-- SET NOTICE ENABLES (R148): the kinds of the mask join the enables of the target. Where both WARN enables were clear and
one is set, a record with alarm CLEAR is evaluated (R131). -/
def Obligations.SetNoticeEnablesAdds : Prop :=
  ∀ (f : Clocked) (s : State) (set : Segment → Segment), s.Ready → 2 ≤ f.bytes.length →
    (∀ g : Segment, set g =
      if g.enables &&& 0x30#8 = 0#8 ∧ (g.enables ||| BitVec.ofNat 8 (f.byte 2)) &&& 0x30#8 ≠ 0#8 ∧ g.alarm = .clear then
        ({ g with enables := g.enables ||| BitVec.ofNat 8 (f.byte 2) } : Segment).evaluate
      else { g with enables := g.enables ||| BitVec.ofNat 8 (f.byte 2) }) →
    (15 < f.byte 1 → f.byte 1 < 254 → s.Completes (.setNoticeEnables f) (0x40#8 :: f.bytes) .badTarget [] s) ∧
    (∀ x : SegId, f.byte 1 = x.val →
      (s.seg x = none → s.Completes (.setNoticeEnables f) (0x40#8 :: f.bytes) .notDefined [] s) ∧
      (∀ g, s.seg x = some g →
        s.Completes (.setNoticeEnables f) (0x40#8 :: f.bytes) .ok [] (s.setSeg x (some (set g))))) ∧
    (f.byte 1 = 255 →
      s.Completes (.setNoticeEnables f) (0x40#8 :: f.bytes) .ok [] (s.mapSegs fun _ g => set g)) ∧
    (f.byte 1 = 254 →
      s.Completes (.setNoticeEnables f) (0x40#8 :: f.bytes) .ok []
        { s with devEnables := s.devEnables ||| BitVec.ofNat 4 (f.byte 2) })

/-- CLEAR NOTICE ENABLES (R148): the kinds of the mask leave the enables of the target. Where a WARN enable was set and
both are clear after it, an alarm of WARN becomes CLEAR without a notice (R130). -/
def Obligations.ClearNoticeEnablesRemoves : Prop :=
  ∀ (f : Clocked) (s : State) (clear : Segment → Segment), s.Ready → 2 ≤ f.bytes.length →
    (∀ g : Segment, clear g =
      { g with
        enables := g.enables &&& ~~~(BitVec.ofNat 8 (f.byte 2)),
        alarm := if g.enables &&& 0x30#8 ≠ 0#8 ∧ (g.enables &&& ~~~(BitVec.ofNat 8 (f.byte 2))) &&& 0x30#8 = 0#8 ∧
          g.alarm = .warn then .clear else g.alarm }) →
    (15 < f.byte 1 → f.byte 1 < 254 → s.Completes (.clearNoticeEnables f) (0x41#8 :: f.bytes) .badTarget [] s) ∧
    (∀ x : SegId, f.byte 1 = x.val →
      (s.seg x = none → s.Completes (.clearNoticeEnables f) (0x41#8 :: f.bytes) .notDefined [] s) ∧
      (∀ g, s.seg x = some g →
        s.Completes (.clearNoticeEnables f) (0x41#8 :: f.bytes) .ok [] (s.setSeg x (some (clear g))))) ∧
    (f.byte 1 = 255 →
      s.Completes (.clearNoticeEnables f) (0x41#8 :: f.bytes) .ok [] (s.mapSegs fun _ g => clear g)) ∧
    (f.byte 1 = 254 →
      s.Completes (.clearNoticeEnables f) (0x41#8 :: f.bytes) .ok []
        { s with devEnables := s.devEnables &&& ~~~(BitVec.ofNat 4 (f.byte 2)) })

/-- SET TIMING (R166): the eight clamped values are held at once, and the status tells whether a clamp changed one (R31,
R36, R52, R96, R108). -/
def Obligations.SetTimingClamps : Prop :=
  ∀ (f : Clocked) (s : State) (t : Timing), s.Ready → 17 ≤ f.bytes.length →
    t.minDwell = max 50 (min 2000 (f.word 2)) → t.maxDwell = max (t.minDwell + 100) (min 20000 (f.word 4)) →
    t.epsilon = max 1 (min 200 (f.word 6)) → t.spacing = min 60000 (f.word 8) →
    t.quiet = max 50 (min 5000 (f.word 10)) → t.debounce = max 1 (min 100 (f.word 12)) →
    t.agreement = max 20 (min 2000 (f.word 14)) → t.lowVoltage = max 100 (min 2000 (f.word 16)) →
    s.Completes (.setTiming f) (0x50#8 :: f.bytes)
      (if t.minDwell = f.word 2 ∧ t.maxDwell = f.word 4 ∧ t.epsilon = f.word 6 ∧ t.spacing = f.word 8 ∧
          t.quiet = f.word 10 ∧ t.debounce = f.word 12 ∧ t.agreement = f.word 14 ∧ t.lowVoltage = f.word 16
        then .ok else .clamped)
      [] { s with timing := t }

/-- RESTART (R168): every table is cleared, the filters take the raw levels, the timing parameters their defaults, the
bridges PARKED or FAULTED with cause TRIM, the notices those of R154; the uptime, the trim results and the reference
conductances are kept. R79 gives phase P, counts of 0 and a clear crossing flag to a PARKED bridge only: that a bridge which
stays FAULTED with cause TRIM has them too, and keeps its state entry time, is the model's choice (assumption log 14). -/
def Obligations.RestartClearsThePart : Prop :=
  ∀ (f : Clocked) (raw : RawContacts) (s : State), s.Ready → 1 ≤ f.bytes.length →
    ∃ t, exec (.restart f raw) s = .next t ∧ t.port = s.port.closed f.early (0x5A#8 :: f.bytes) .ok [] ∧
      t.pending = s.pending ∧ t.supplyValid = true ∧ t.resetHigh = true ∧ t.uptime = s.uptime ∧
      (∀ x, t.seg x = none) ∧ (∀ i, t.link i = none) ∧ t.nets = [] ∧ t.timing = Timing.reset ∧
      (∀ i : AuxLine, t.aux[i] = { level := raw.aux.getLsbD i.val, run := 0, due := false }) ∧
      (∀ i : ExtLine, t.ext[i] = { level := raw.ext.getLsbD i.val, run := 0, due := false }) ∧
      (∀ b, t.bridge b =
        { s.bridge b with
          state := if (s.bridge b).trimPassed then .parked else .faulted,
          cause := if (s.bridge b).trimPassed then none else some .trim,
          entryTime := if (s.bridge b).trimPassed then s.uptime else (s.bridge b).entryTime,
          phase := .p, crossing := false, attached := none, timeout := 0, watchP := 0, watchN := 0, up := 0, un := 0,
          overRange := false, drvP := false, drvN := false, sampled := false }) ∧
      t.devEnables = 0b1111#4 ∧
      t.devPending = (if ∃ b, (s.bridge b).trimPassed = false then 0b0011#4 else 0b0001#4) ∧
      (t.devRepeated = true ↔ ∃ b c, b ≠ c ∧ (s.bridge b).trimPassed = false ∧ (s.bridge c).trimPassed = false) ∧
      t.alert = true ∧ t.faultLine = false

/-- The start of a pin reset or a power-on reset stops the part (R169): drives off, both lines released, SDO at high
impedance, an open frame discarded, uptime 0. Their end starts it afresh (R21, R38, R39, R60, R62, R79, R98, R100, R154,
R160), with the trim words of State. That the records are otherwise kept until the rise, and what a supply or a RESET_N
that does not end the reset does, are the model's reading (assumption log 13); so are the phase P, the counts of 0 and the
entry time of a bridge FAULTED with cause TRIM (assumption log 14), and the receive buffer, the summary byte and the
shifted bytes, which are empty (assumption log 8). -/
def Obligations.ResetRowsStopAndStartThePart : Prop :=
  ∀ (s : State) (raw : RawContacts),
    (∀ c, c = Instr.pinReset ∨ c = Instr.powerOnResetStart →
      exec c s = .next { s with
        resetHigh := if c = .pinReset then false else s.resetHigh,
        supplyValid := if c = .pinReset then s.supplyValid else false,
        uptime := 0#32, bridges := Vector.ofFn fun i => { (s.bridges[i]) with drvP := false, drvN := false },
        port := { s.port with frameOpen := false, received := [], summary := none, sdo := none }, alert := false,
        faultLine := false }) ∧
    (∀ c, (c = .powerOnReset raw ∧ s.resetHigh = true) ∨
        (c = .resetNRise raw ∧ s.resetHigh = false ∧ s.supplyValid = true) →
      ∃ t, exec c s = .next t ∧ t.pending = s.pending ∧ t.Running ∧ t.uptime = 0#32 ∧ (∀ x, t.seg x = none) ∧
        (∀ i, t.link i = none) ∧ t.nets = [] ∧ t.timing = Timing.reset ∧
        (∀ i : AuxLine, t.aux[i] = { level := raw.aux.getLsbD i.val, run := 0, due := false }) ∧
        (∀ i : ExtLine, t.ext[i] = { level := raw.ext.getLsbD i.val, run := 0, due := false }) ∧
        (∀ b, (t.bridge b).trim = (s.bridge b).trim ∧
          ((t.bridge b).trimPassed = true ↔
            (5000 ≤ (s.bridge b).trim.refP.toNat ∧ (s.bridge b).trim.refP.toNat ≤ 50000) ∧
            (5000 ≤ (s.bridge b).trim.refN.toNat ∧ (s.bridge b).trim.refN.toNat ≤ 50000) ∧
            (58982 ≤ (s.bridge b).trim.gainP.toNat ∧ (s.bridge b).trim.gainP.toNat ≤ 72090) ∧
            (58982 ≤ (s.bridge b).trim.gainN.toNat ∧ (s.bridge b).trim.gainN.toNat ≤ 72090)) ∧
          ((t.bridge b).trimPassed = true →
            t.bridge b = { Bridge.reset with
              trim := (s.bridge b).trim,
              references := some
                { grP := (10 ^ 12 + (s.bridge b).trim.refP.toNat * 5) / ((s.bridge b).trim.refP.toNat * 10),
                  grN := (10 ^ 12 + (s.bridge b).trim.refN.toNat * 5) / ((s.bridge b).trim.refN.toNat * 10) } }) ∧
          ((t.bridge b).trimPassed = false →
            t.bridge b = { Bridge.reset with
              state := .faulted, cause := some .trim, trim := (s.bridge b).trim, trimPassed := false,
              references := none })) ∧
        t.devEnables = 0b1111#4 ∧
        t.devPending = (if ∃ b, (t.bridge b).trimPassed = false then 0b0011#4 else 0b0001#4) ∧
        (t.devRepeated = true ↔ ∃ b c, b ≠ c ∧ (t.bridge b).trimPassed = false ∧ (t.bridge c).trimPassed = false) ∧
        t.alert = true ∧ t.faultLine = false ∧ t.port = { Port.reset with csHigh := s.port.csHigh }) ∧
    (s.resetHigh = false → exec (.powerOnReset raw) s = .next { s with supplyValid := true }) ∧
    (s.resetHigh = true → exec (.resetNRise raw) s = .next s) ∧
    (s.resetHigh = false → s.supplyValid = false → exec (.resetNRise raw) s = .next { s with resetHigh := true })

/-- No event of the time base, the filters, the timers, the samples or the switches is taken in a reset (R169), and outside
one an event that is not due does not happen: a filtered change, a window or an expiry before its moment, a timer of no net,
of a net in another state, before its moment or (for the dwell) of a bridge not in DWELL, a sample of a bridge FAULTED with
cause TRIM, and a switch event outside its state, with another sense, or before its count. The guards are the model's
choice (assumption log 7). -/
def Obligations.EventsWaitForTheirMoment : Prop :=
  ∀ (s : State),
    (∀ c, frameOf c = none → c ≠ .chipSelectFall → c ≠ .pinReset → c ≠ .powerOnResetStart →
      (∀ raw, c ≠ .powerOnReset raw ∧ c ≠ .resetNRise raw) → ¬ s.Running → exec c s = .next s) ∧
    (∀ i : AuxLine, (s.aux[i]).due = false → exec (.filteredChangeAux i) s = .next s) ∧
    (∀ i : ExtLine, (s.ext[i]).due = false → exec (.filteredChangeExt i) s = .next s) ∧
    (∀ i, (∀ l t, s.link i = some l → l.mode = .checked → l.disagreeFlag = false → l.disagreeStart = some t →
        (s.uptime - t).toNat < s.timing.agreement) → exec (.agreementWindowExpiry i) s = .next s) ∧
    (∀ x, (∀ g e, s.seg x = some g → g.expiry = some e →
        (s.uptime - g.attrTime).toNat < (e - g.attrTime).toNat) → exec (.expiry x) s = .next s) ∧
    (∀ b p n, (s.bridge b).cause = some .trim → exec (.sampleEvent b p n) s = .next s) ∧
    (∀ a, (∀ n b c, s.netAt a = some n → n.state = .phaseP ∨ n.state = .phaseN → n.grant = some b →
        n.confirmation = some c → (s.uptime - c.time).toNat < c.minDwell ∨ (s.bridge b).state ≠ .dwell) →
      exec (.dwellTimerExpiry a) s = .next s) ∧
    (∀ a, (∀ n c, s.netAt a = some n → n.state = .phaseP ∨ n.state = .phaseN → n.confirmation = some c →
        (s.uptime - c.time).toNat < c.maxDwell) → exec (.maxDwellTimerExpiry a) s = .next s) ∧
    (∀ a, (∀ n q, s.netAt a = some n → n.state = .quiet → n.quiet = some q → (s.uptime - q.start).toNat < q.length) →
      exec (.quietTimerExpiry a) s = .next s) ∧
    (∀ a, (∀ n q, s.netAt a = some n → n.state = .rest → n.spacing = some q → (s.uptime - q.start).toNat < q.length) →
      exec (.spacingExpiry a) s = .next s) ∧
    (∀ b, (s.bridge b).state ≠ .closing ∨ (s.bridge b).sampled = false ∨ 20 ≤ (s.bridge b).timeout ∨
        (s.bridge b).sense? (s.bridge b).phase = false → exec (.closeConfirmation b) s = .next s) ∧
    (∀ b, (s.bridge b).state ≠ .closing ∨ (s.bridge b).timeout < 20 → exec (.closeTimeout b) s = .next s) ∧
    (∀ b, (s.bridge b).state ≠ .opening ∨ (s.bridge b).sampled = false ∨ 20 ≤ (s.bridge b).timeout ∨
        (s.bridge b).snsP = true ∨ (s.bridge b).snsN = true → exec (.openConfirmation b) s = .next s) ∧
    (∀ b, (s.bridge b).state ≠ .opening ∨ (s.bridge b).timeout < 20 → exec (.openTimeout b) s = .next s) ∧
    (∀ b, ((s.bridge b).state ≠ .dwell ∧ (s.bridge b).state ≠ .settling) ∨
        (s.bridge b).count (s.bridge b).phase < 20 → exec (.senseDropout b) s = .next s) ∧
    (∀ b, ((s.bridge b).state ≠ .closing ∧ (s.bridge b).state ≠ .dwell ∧ (s.bridge b).state ≠ .settling) ∨
        (∀ side, side ≠ (s.bridge b).phase → (s.bridge b).count side < 20) →
      exec (.stuckOppositeSense b) s = .next s) ∧
    (∀ b, (s.bridge b).state ≠ .parked ∨ (∀ side, (s.bridge b).count side < 20) →
      exec (.stuckInParked b) s = .next s) ∧
    (∀ b, (s.bridge b).state ≠ .faulted ∨
        ((s.bridge b).cause ≠ some .closeTimeout ∧ (s.bridge b).cause ≠ some .openTimeout) ∨
        (∀ side, (s.bridge b).count side < 20) → exec (.stuckEscalation b) s = .next s)

/-! ## The segment table -/

/-- DEFINE SEGMENT (R2, R3, R4, R5): its checks in order, and the record an accepted one defines, handed to the net resolver
as a topology event. -/
def Obligations.DefineSegment : Prop :=
  ∀ (f : Clocked) (s : State), s.Ready → 11 ≤ f.bytes.length →
    (15 < f.byte 1 → s.Completes (.defineSegment f) (0x20#8 :: f.bytes) .badTarget [] s) ∧
    (∀ x : SegId, f.byte 1 = x.val →
      (∀ g, s.seg x = some g → s.Completes (.defineSegment f) (0x20#8 :: f.bytes) .alreadyDefined [] s) ∧
      (s.seg x = none → 4 < f.byte 10 → s.Completes (.defineSegment f) (0x20#8 :: f.bytes) .badValue [] s) ∧
      (∀ src v ff wf val, s.seg x = none → src.code = f.byte 10 → v = max 100 (min 1500 (f.word 2)) →
        ff = max 50 (min 2000 (f.word 4)) → wf = max ff (min 5000 (f.word 6)) → val = max 1 (f.word 8) →
        s.Completes (.defineSegment f) (0x20#8 :: f.bytes)
          (if v = f.word 2 ∧ ff = f.word 4 ∧ wf = f.word 6 ∧ val = f.word 8 then .ok else .clamped) []
          (s.setSeg x (some
            { vMax := v, faultFactor := ff, warnFactor := wf, validity := val, source := src,
              latch := (f.byte 11).testBit 0, drive := (f.byte 11).testBit 1, bridge := none, quality := .none,
              gp := 0, gn := 0, attrTime := s.uptime, expiry := none, stale := false, ext := false,
              degraded := false, alarm := .clear, thresholds := thresholdsOf v ff wf, lowMark := none,
              spot := none, lastSpot := none, enables := 0xFF#8, pending := 0#8, repeated := false })).recompute))

/-- An accepted DEFINE SEGMENT places the new segment in a net of its own and raises NET_CHANGE on it; with source OWN the
net is UNMEASURABLE with reason NO_BRIDGE, else EXTERNAL with the externally-supervised flag set and the verdict of its
selected line applied (R4, R46, R53, R54). The premises are laws that every step keeps. -/
def Obligations.DefinedSegmentStandsAlone : Prop :=
  ∀ (f : Clocked) (s : State) (x : SegId) (src : Source), s.Ready → 11 ≤ f.bytes.length → f.byte 1 = x.val →
    s.seg x = none → src.code = f.byte 10 → s.LinksJoinSegments → s.AttachmentsAgree → s.NetsAreComponents →
    s.NetsSound → s.CyclesHeld →
    ∃ t g n, exec (.defineSegment f) s = .next t ∧ t.seg x = some g ∧ n ∈ t.nets ∧ t.netOf x = some n ∧
      n.members = [x] ∧ n.anchor = x ∧ n.bridges = [] ∧ n.grant = none ∧ n.lastResult = none ∧
      g.quality = .none ∧ g.attrTime = s.uptime ∧ g.enables = 0xFF#8 ∧ g.repeated = false ∧
      (src = .own → n.state = .unmeasurable ∧ n.reason = some .noBridge ∧ g.ext = false ∧ g.alarm = .clear ∧
        g.pending = 0x04#8) ∧
      (src ≠ .own → n.state = .external ∧ g.ext = true) ∧
      (¬ s.ReadsFault src → g.alarm = .clear ∧ g.pending = 0x04#8) ∧
      (s.ReadsFault src → g.alarm = .fault ∧ g.pending = 0x84#8)

/-- AMEND SEGMENT (R2, R5 to R10): its checks in order, and its consequences in the order R7, R8, R9, R10 (assumption log
12). R8 is the update of FAULT_N that every `Completes` states. -/
def Obligations.AmendSegment : Prop :=
  ∀ (f : Clocked) (s : State), s.Ready → 11 ≤ f.bytes.length →
    (15 < f.byte 1 → s.Completes (.amendSegment f) (0x21#8 :: f.bytes) .badTarget [] s) ∧
    (∀ x : SegId, f.byte 1 = x.val →
      (s.seg x = none → s.Completes (.amendSegment f) (0x21#8 :: f.bytes) .notDefined [] s) ∧
      (∀ g, s.seg x = some g → 4 < f.byte 10 → s.Completes (.amendSegment f) (0x21#8 :: f.bytes) .badValue [] s) ∧
      (∀ g src v ff wf val (w : Segment) (u : State), s.seg x = some g → src.code = f.byte 10 →
        v = max 100 (min 1500 (f.word 2)) → ff = max 50 (min 2000 (f.word 4)) → wf = max ff (min 5000 (f.word 6)) →
        val = max 1 (f.word 8) →
        w = { g with vMax := v, faultFactor := ff, warnFactor := wf, validity := val, source := src,
                     latch := (f.byte 11).testBit 0, drive := (f.byte 11).testBit 1 } →
        u = (if v = g.vMax ∧ ff = g.faultFactor ∧ wf = g.warnFactor then s.setSeg x (some w)
             else s.setSeg x (some ({ w with thresholds := thresholdsOf v ff wf } : Segment).evaluate)) →
        s.Completes (.amendSegment f) (0x21#8 :: f.bytes)
          (if v = f.word 2 ∧ ff = f.word 4 ∧ wf = f.word 6 ∧ val = f.word 8 then .ok else .clamped) []
          (if val = g.validity then (if src = g.source then u else u.recompute)
           else (if src = g.source then u else u.recompute).modSeg x fun h =>
             if h.quality = .none ∨ h.stale = true then h
             else if (s.uptime - h.attrTime).toNat < val * 1000 then
               { h with expiry := some (h.attrTime + BitVec.ofNat 32 (val * 1000)) }
             else { h with stale := true, expiry := none, pending := h.pending ||| 0x08#8,
                           repeated := h.repeated || h.pending &&& 0x08#8 != 0#8 })))

/-- RETIRE SEGMENT (R17, R18): its checks in order; an accepted one detaches the bridge, frees the record with its spot and
its notices, and is one topology event. -/
def Obligations.RetireSegment : Prop :=
  ∀ (f : Clocked) (s : State), s.Ready → 1 ≤ f.bytes.length →
    (15 < f.byte 1 → s.Completes (.retireSegment f) (0x22#8 :: f.bytes) .badTarget [] s) ∧
    (∀ x : SegId, f.byte 1 = x.val →
      (s.seg x = none → s.Completes (.retireSegment f) (0x22#8 :: f.bytes) .notDefined [] s) ∧
      (∀ g, s.seg x = some g → (∃ i l, s.link i = some l ∧ (l.endA = x ∨ l.endB = x)) →
        s.Completes (.retireSegment f) (0x22#8 :: f.bytes) .linked [] s) ∧
      (∀ g, s.seg x = some g → (∀ i l, s.link i = some l → l.endA ≠ x ∧ l.endB ≠ x) →
        s.Completes (.retireSegment f) (0x22#8 :: f.bytes) .ok []
          (((match g.bridge with
            | some b => s.modBridge b fun r => { r with attached := none }
            | none => s).setSeg x none).recompute)))

/-- CLEAR LOW MARK (R16): the mark becomes the current R for quality DIRECT or DERIVED and is none otherwise; nothing else
changes. -/
def Obligations.ClearLowMark : Prop :=
  ∀ (f : Clocked) (s : State), s.Ready → 1 ≤ f.bytes.length →
    (15 < f.byte 1 → s.Completes (.clearLowMark f) (0x23#8 :: f.bytes) .badTarget [] s) ∧
    (∀ x : SegId, f.byte 1 = x.val →
      (s.seg x = none → s.Completes (.clearLowMark f) (0x23#8 :: f.bytes) .notDefined [] s) ∧
      (∀ g, s.seg x = some g →
        s.Completes (.clearLowMark f) (0x23#8 :: f.bytes) .ok []
          (s.setSeg x (some { g with
            lowMark := if g.quality = .direct ∨ g.quality = .derived then some (resistance (max g.gp g.gn))
              else none }))))

/-- ACKNOWLEDGE FAULT (R134, R135): its checks in order, and the exit from FAULT with its notices. That an externally
supervised record no net holds, which no run reaches, is refused with STILL_FAULTY is the model's default (assumption log
15). -/
def Obligations.AcknowledgeFault : Prop :=
  ∀ (f : Clocked) (s : State), s.Ready → 1 ≤ f.bytes.length →
    (15 < f.byte 1 → s.Completes (.acknowledgeFault f) (0x24#8 :: f.bytes) .badTarget [] s) ∧
    (∀ x : SegId, f.byte 1 = x.val →
      (s.seg x = none → s.Completes (.acknowledgeFault f) (0x24#8 :: f.bytes) .notDefined [] s) ∧
      (∀ g, s.seg x = some g →
        (g.alarm ≠ .fault ∨ g.latch = false →
          s.Completes (.acknowledgeFault f) (0x24#8 :: f.bytes) .notFaulted [] s) ∧
        (g.alarm = .fault → g.latch = true → g.ext = true → (∀ n, s.netOf x = some n → s.verdict n.members = .fault) →
          s.Completes (.acknowledgeFault f) (0x24#8 :: f.bytes) .stillFaulty [] s) ∧
        (g.alarm = .fault → g.latch = true → g.ext = false →
          (g.quality = .none ∨ g.thresholds.faultOff ≤ max g.gp g.gn) →
          s.Completes (.acknowledgeFault f) (0x24#8 :: f.bytes) .stillFaulty [] s) ∧
        (∀ n, g.alarm = .fault → g.latch = true → g.ext = true → s.netOf x = some n → s.verdict n.members = .ok →
          s.Completes (.acknowledgeFault f) (0x24#8 :: f.bytes) .ok []
            (s.setSeg x (some { g with
              alarm := .clear, pending := g.pending ||| 0x40#8,
              repeated := g.repeated || g.pending &&& 0x40#8 != 0#8 }))) ∧
        (g.alarm = .fault → g.latch = true → g.ext = false → g.quality ≠ .none →
          max g.gp g.gn < g.thresholds.faultOff →
          s.Completes (.acknowledgeFault f) (0x24#8 :: f.bytes) .ok []
            (s.setSeg x (some (
              if g.thresholds.warnOff ≤ max g.gp g.gn ∧ g.enables &&& 0x30#8 ≠ 0#8 then
                { g with alarm := .warn, pending := g.pending ||| 0x60#8,
                         repeated := g.repeated || g.pending &&& 0x60#8 != 0#8 }
              else
                { g with alarm := .clear, pending := g.pending ||| 0x40#8,
                         repeated := g.repeated || g.pending &&& 0x40#8 != 0#8 }))))))

/-- SPOT CHECK (R94): its checks in order; an accepted one sets the flag with its request time unless it is set, and starts
the cycle of a net in REST whose start is not pending. -/
def Obligations.SpotCheck : Prop :=
  ∀ (f : Clocked) (s : State), s.Ready → 1 ≤ f.bytes.length →
    (15 < f.byte 1 → s.Completes (.spotCheck f) (0x28#8 :: f.bytes) .badTarget [] s) ∧
    (∀ x : SegId, f.byte 1 = x.val →
      (s.seg x = none → s.Completes (.spotCheck f) (0x28#8 :: f.bytes) .notDefined [] s) ∧
      (∀ g n (u : State), s.seg x = some g → s.netOf x = some n →
        u = s.setSeg x (some { g with spot := some (g.spot.getD s.uptime) }) →
        (n.state = .external → s.Completes (.spotCheck f) (0x28#8 :: f.bytes) .external [] s) ∧
        (n.state = .unmeasurable → s.Completes (.spotCheck f) (0x28#8 :: f.bytes) .noMeasurement [] s) ∧
        (n.state = .rest → n.startPending = false →
          s.Completes (.spotCheck f) (0x28#8 :: f.bytes) .ok [] (u.startCycle n.anchor)) ∧
        (n.state = .rest → n.startPending = true → s.Completes (.spotCheck f) (0x28#8 :: f.bytes) .ok [] u) ∧
        (n.state = .quiet ∨ n.state = .phaseP ∨ n.state = .phaseN ∨ n.state = .release →
          s.Completes (.spotCheck f) (0x28#8 :: f.bytes) .ok [] u)))

/-- EXPIRY (R12, R13): the record goes stale, STALE is raised and the expiry moment is discarded; AGREEMENT_WINDOW_EXPIRY
(R34): the link's disagreement flag is set and LINK_DISAGREE raised. -/
def Obligations.TableTimersExpire : Prop :=
  ∀ s : State, s.Running →
    (∀ x g e, s.seg x = some g → g.expiry = some e → (e - g.attrTime).toNat ≤ (s.uptime - g.attrTime).toNat →
      s.Happens (.expiry x)
        (s.setSeg x (some { g with
          stale := true, expiry := none, pending := g.pending ||| 0x08#8,
          repeated := g.repeated || g.pending &&& 0x08#8 != 0#8 }))) ∧
    (∀ i l t, s.link i = some l → l.mode = .checked → l.disagreeFlag = false → l.disagreeStart = some t →
      s.timing.agreement ≤ (s.uptime - t).toNat →
      s.Happens (.agreementWindowExpiry i)
        { s.setLink i (some { l with disagreeFlag := true }) with
          devPending := s.devPending ||| 0b0100#4,
          devRepeated := s.devRepeated || s.devPending &&& 0b0100#4 != 0#4 })

/-! ## The link table and the filters -/

/-- DEFINE LINK (R23, R24, R25, R32, R33): its checks in order, and the record an accepted one defines, a topology event
when it is effectively CLOSED. -/
def Obligations.DefineLink : Prop :=
  ∀ (f : Clocked) (s : State), s.Ready → 7 ≤ f.bytes.length →
    (23 < f.byte 1 → s.Completes (.defineLink f) (0x30#8 :: f.bytes) .badTarget [] s) ∧
    (∀ i : LinkId, f.byte 1 = i.val →
      (∀ l, s.link i = some l → s.Completes (.defineLink f) (0x30#8 :: f.bytes) .alreadyDefined [] s) ∧
      (s.link i = none →
        ((∀ x : SegId, x.val = f.byte 2 → s.seg x = none) ∨ (∀ x : SegId, x.val = f.byte 3 → s.seg x = none)) →
        s.Completes (.defineLink f) (0x30#8 :: f.bytes) .notDefined [] s) ∧
      (∀ a b : SegId, s.link i = none → f.byte 2 = a.val → f.byte 3 = b.val → (s.seg a).isSome → (s.seg b).isSome →
        (a = b → s.Completes (.defineLink f) (0x30#8 :: f.bytes) .sameEnds [] s) ∧
        (a ≠ b → 2 < f.byte 4 ∨ 1 < f.byte 7 → s.Completes (.defineLink f) (0x30#8 :: f.bytes) .badValue [] s) ∧
        (a ≠ b → f.byte 4 = 1 ∨ f.byte 4 = 2 → f.byte 7 ≤ 1 → 11 < f.byte 5 ∨ 1 < f.byte 6 →
          s.Completes (.defineLink f) (0x30#8 :: f.bytes) .badValue [] s) ∧
        (∀ (d : Contact) (t : State), a ≠ b → f.byte 4 = 0 → d.code = f.byte 7 →
          t = s.setLink i (some
            { endA := a, endB := b, mode := .declared, aux := none, polarity := none, declared := d, sensed := none,
              effective := d, disagreeStart := none, disagreeFlag := false }) →
          s.Completes (.defineLink f) (0x30#8 :: f.bytes) .ok [] (if d = .closed then t.recompute else t)) ∧
        (∀ (m : LinkMode) (d sc eff : Contact) (ln : AuxLine) (pol : Polarity) (t : State), a ≠ b → m ≠ .declared →
          m.code = f.byte 4 → d.code = f.byte 7 → ln.val = f.byte 5 → pol.code = f.byte 6 →
          sc = (if (s.aux[ln]).level = true ↔ pol = .normallyOpen then .closed else .opened) →
          eff = (if m = .sensed then sc else if d = .closed ∨ sc = .closed then .closed else .opened) →
          t = s.setLink i (some
            { endA := a, endB := b, mode := m, aux := some ln, polarity := some pol, declared := d, sensed := some sc,
              effective := eff, disagreeStart := if m = .checked ∧ sc ≠ d then some s.uptime else none,
              disagreeFlag := false }) →
          s.Completes (.defineLink f) (0x30#8 :: f.bytes) .ok [] (if eff = .closed then t.recompute else t))))

/-- RETIRE LINK (R28) and DECLARE LINK (R27, R25, R33, R35): their checks in order and their effects. -/
def Obligations.RetireAndDeclareLink : Prop :=
  ∀ (f : Clocked) (s : State), s.Ready →
    (1 ≤ f.bytes.length →
      (23 < f.byte 1 → s.Completes (.retireLink f) (0x31#8 :: f.bytes) .badTarget [] s) ∧
      (∀ i : LinkId, f.byte 1 = i.val →
        (s.link i = none → s.Completes (.retireLink f) (0x31#8 :: f.bytes) .notDefined [] s) ∧
        (∀ l, s.link i = some l →
          s.Completes (.retireLink f) (0x31#8 :: f.bytes) .ok []
            (if l.effective = .closed then (s.setLink i none).recompute else s.setLink i none)))) ∧
    (2 ≤ f.bytes.length →
      (23 < f.byte 1 → s.Completes (.declareLink f) (0x32#8 :: f.bytes) .badTarget [] s) ∧
      (∀ i : LinkId, f.byte 1 = i.val →
        (s.link i = none → s.Completes (.declareLink f) (0x32#8 :: f.bytes) .notDefined [] s) ∧
        (∀ l, s.link i = some l →
          (l.mode = .sensed → s.Completes (.declareLink f) (0x32#8 :: f.bytes) .wrongMode [] s) ∧
          (l.mode ≠ .sensed → 1 < f.byte 2 → s.Completes (.declareLink f) (0x32#8 :: f.bytes) .badValue [] s) ∧
          (∀ d : Contact, l.mode ≠ .sensed → d.code = f.byte 2 →
            (d = l.declared → s.Completes (.declareLink f) (0x32#8 :: f.bytes) .ok [] s) ∧
            (∀ (eff : Contact) (t : State), d ≠ l.declared →
              eff = (if l.mode = .declared then d else if d = .closed ∨ l.sensed = some .closed then .closed
                else .opened) →
              t = s.setLink i (some { l with
                declared := d, effective := eff,
                disagreeStart :=
                  if l.mode = .declared then l.disagreeStart
                  else if l.sensed = some d then none else some (l.disagreeStart.getD s.uptime),
                disagreeFlag := if l.mode = .checked ∧ l.sensed = some d then false else l.disagreeFlag }) →
              s.Completes (.declareLink f) (0x32#8 :: f.bytes) .ok []
                (if eff = l.effective then t else t.recompute))))))

/-- UPTIME_ADVANCE (R20, R29, R31, R66, R69 to R74): the uptime advances by one, every filter and every bridge takes its
samples; nothing else changes. The `due` mark of a filter is the model's own (assumption log 9), and so is that of a
bridge sample (assumption log 11). -/
def Obligations.UptimeAdvanceSamples : Prop :=
  ∀ (raw : RawLevels) (s : State), s.Running →
    ∃ t, exec (.uptimeAdvance raw) s = .next t ∧
      t = { s with uptime := s.uptime + 1#32, aux := t.aux, ext := t.ext, bridges := t.bridges } ∧
      (∀ i : AuxLine, t.aux[i] =
        if raw.contacts.aux.getLsbD i.val = (s.aux[i]).level then { level := (s.aux[i]).level, run := 0, due := false }
        else { level := (s.aux[i]).level, run := (s.aux[i]).run + 1,
               due := decide (s.timing.debounce ≤ (s.aux[i]).run + 1) }) ∧
      (∀ i : ExtLine, t.ext[i] =
        if raw.contacts.ext.getLsbD i.val = (s.ext[i]).level then { level := (s.ext[i]).level, run := 0, due := false }
        else { level := (s.ext[i]).level, run := (s.ext[i]).run + 1,
               due := decide (s.timing.debounce ≤ (s.ext[i]).run + 1) }) ∧
      (∀ b, t.bridge b = { s.bridge b with
          snsP := raw.snsP.getLsbD b.val, snsN := raw.snsN.getLsbD b.val, sampled := true,
          timeout := (t.bridge b).timeout, watchP := (t.bridge b).watchP, watchN := (t.bridge b).watchN }) ∧
      (∀ b, (t.bridge b).timeout =
        if ((s.bridge b).state = .closing ∧ (t.bridge b).sense? (s.bridge b).phase = false) ∨
            ((s.bridge b).state = .opening ∧ ((t.bridge b).snsP = true ∨ (t.bridge b).snsN = true)) then
          min 20 ((s.bridge b).timeout + 1)
        else (s.bridge b).timeout) ∧
      (∀ b side, ¬ (s.bridge b).Watches side → (t.bridge b).count side = (s.bridge b).count side) ∧
      (∀ b side, (s.bridge b).Watches side →
        ((t.bridge b).sense? side = true ↔ (s.bridge b).Expects side) → (t.bridge b).count side = 0) ∧
      (∀ b side, (s.bridge b).Watches side →
        ¬ ((t.bridge b).sense? side = true ↔ (s.bridge b).Expects side) →
        (t.bridge b).count side = min 20 ((s.bridge b).count side + 1))

/-- FILTERED_CHANGE_AUX (R29, R30, R32, R33, R35, R26): the filtered level takes the opposite level, every link on the line
derives its states again, and one recompute follows if the effective state of any changed. -/
def Obligations.FilteredChangeAux : Prop :=
  ∀ (line : AuxLine) (s v : State), s.Running → (s.aux[line]).due = true →
    v = { s with aux := s.aux.set line { level := !(s.aux[line]).level, run := 0, due := false }, links := v.links } →
    (∀ i, s.link i = none → v.link i = none) →
    (∀ i l, s.link i = some l → l.aux ≠ some line ∨ l.polarity = none → v.link i = some l) →
    (∀ i l pol sc, s.link i = some l → l.aux = some line → l.polarity = some pol →
      sc = (if (s.aux[line]).level = false ↔ pol = .normallyOpen then Contact.closed else .opened) →
      v.link i = some (
        if l.sensed = some sc then l
        else
          { l with
            sensed := some sc, effective := effectiveOf l.mode l.declared (some sc),
            disagreeStart :=
              if l.mode ≠ .checked then l.disagreeStart
              else if sc = l.declared then none else some (l.disagreeStart.getD s.uptime),
            disagreeFlag := if l.mode = .checked ∧ sc = l.declared then false else l.disagreeFlag })) →
    s.Happens (.filteredChangeAux line)
      (if ∃ i, (s.link i).map (·.effective) ≠ (v.link i).map (·.effective) then v.recompute else v)

/-- The verdict of a member set is FAULT exactly when a member's selected line reads fault (R54). FILTERED_CHANGE_EXT (R29,
R30, R54, R55, R132, R137): the filtered level takes the opposite level, and the verdict of every
EXTERNAL net with a member that selects the line is applied to all its members; no other segment, and no net, changes. -/
def Obligations.FilteredChangeExt : Prop :=
  (∀ (s : State) (ms : List SegId),
    s.verdict ms = .fault ↔ ∃ x ∈ ms, ∃ g, s.seg x = some g ∧ s.ReadsFault g.source) ∧
  (∀ (line : ExtLine) (s v : State), s.Running → (s.ext[line]).due = true →
    v = { s with ext := s.ext.set line { level := !(s.ext[line]).level, run := 0, due := false }, segs := v.segs } →
    (∀ x, s.seg x = none → v.seg x = none) →
    (∀ x g, s.seg x = some g →
      ((∀ n, s.netOf x = some n → n.state = .external →
          ∀ y h, y ∈ n.members → s.seg y = some h → ¬ h.source.Selects line) → v.seg x = some g) ∧
      (∀ n y h, s.netOf x = some n → n.state = .external → y ∈ n.members → s.seg y = some h →
        h.source.Selects line →
        ((∃ z k, z ∈ n.members ∧ s.seg z = some k ∧ v.ReadsFault k.source) → v.seg x = some (g.movedTo .fault)) ∧
        ((∀ z k, z ∈ n.members → s.seg z = some k → ¬ v.ReadsFault k.source) →
          v.seg x = some (if g.alarm = .fault ∧ g.latch = true then g else g.movedTo .clear)))) →
    s.Happens (.filteredChangeExt line) v)

/-! ## The bridges -/

/-- ATTACH BRIDGE (R76): its checks in order, and the attachment on both sides, a topology event. -/
def Obligations.AttachBridge : Prop :=
  ∀ (f : Clocked) (s : State), s.Ready → 2 ≤ f.bytes.length →
    (3 < f.byte 1 → s.Completes (.attachBridge f) (0x38#8 :: f.bytes) .badTarget [] s) ∧
    (∀ b : BridgeId, f.byte 1 = b.val →
      ((∀ x : SegId, x.val = f.byte 2 → s.seg x = none) →
        s.Completes (.attachBridge f) (0x38#8 :: f.bytes) .notDefined [] s) ∧
      (∀ (x : SegId) (g : Segment), f.byte 2 = x.val → s.seg x = some g →
        ((s.bridge b).attached ≠ none ∨ g.bridge ≠ none →
          s.Completes (.attachBridge f) (0x38#8 :: f.bytes) .bridgeTaken [] s) ∧
        ((s.bridge b).attached = none → g.bridge = none →
          s.Completes (.attachBridge f) (0x38#8 :: f.bytes) .ok []
            ((s.modBridge b fun r => { r with attached := some x }).setSeg x
              (some { g with bridge := some b })).recompute)))

/-- DETACH BRIDGE (R77): its checks in order, and the detachment on both sides, a topology event. -/
def Obligations.DetachBridge : Prop :=
  ∀ (f : Clocked) (s : State), s.Ready → 1 ≤ f.bytes.length →
    (3 < f.byte 1 → s.Completes (.detachBridge f) (0x39#8 :: f.bytes) .badTarget [] s) ∧
    (∀ b : BridgeId, f.byte 1 = b.val →
      ((s.bridge b).attached = none → s.Completes (.detachBridge f) (0x39#8 :: f.bytes) .notDefined [] s) ∧
      (∀ x g, (s.bridge b).attached = some x → s.seg x = some g →
        s.Completes (.detachBridge f) (0x39#8 :: f.bytes) .ok []
          ((s.modBridge b fun r => { r with attached := none }).setSeg x (some { g with bridge := none })).recompute))

/-- RESET BRIDGE (R75): its checks in order; an accepted one clears the cause and enters OPENING with both drives off, a
topology event. -/
def Obligations.ResetBridge : Prop :=
  ∀ (f : Clocked) (s : State), s.Ready → 1 ≤ f.bytes.length →
    (3 < f.byte 1 → s.Completes (.resetBridge f) (0x3A#8 :: f.bytes) .badTarget [] s) ∧
    (∀ b : BridgeId, f.byte 1 = b.val →
      ((s.bridge b).state ≠ .faulted → s.Completes (.resetBridge f) (0x3A#8 :: f.bytes) .notFaulted [] s) ∧
      ((s.bridge b).state = .faulted → (s.bridge b).cause = some .trim →
        s.Completes (.resetBridge f) (0x3A#8 :: f.bytes) .trimInvalid [] s) ∧
      ((s.bridge b).state = .faulted → (s.bridge b).cause ≠ some .trim →
        s.Completes (.resetBridge f) (0x3A#8 :: f.bytes) .ok []
          (s.modBridge b fun r => { r with
            state := .opening, cause := none, crossing := false, timeout := 0, watchP := 0, watchN := 0,
            entryTime := s.uptime, drvP := false, drvN := false, sampled := false }).recompute))

/-- The commands a bridge takes from its net, by the table of R68, with the entries of R69 and R71. A CLOSE P that comes
before the twentieth stuck sample of the side being closed leaves that sample to confirm the switch (R72): the `sampled` mark
is the model's own (assumption log 11). -/
def Obligations.BridgeCommandTable : Prop :=
  ∀ (b : Bridge) (now : Uptime),
    (b.state = .parked → b.closeP now =
      { b with state := .closing, phase := .p, drvP := true, drvN := false, crossing := false, timeout := 0,
               watchP := 0, watchN := 0, entryTime := now, sampled := if 20 ≤ b.watchP then b.snsP else false }) ∧
    (b.state ≠ .parked → b.closeP now = b) ∧
    (b.state = .dwell ∨ b.state = .settling → b.phase = .p → b.cross now =
      { b with state := .opening, crossing := true, drvP := false, drvN := false, timeout := 0, watchP := 0,
               watchN := 0, entryTime := now, sampled := false }) ∧
    (b.state ≠ .dwell → b.state ≠ .settling → b.cross now = b) ∧
    (b.phase = .n → b.cross now = b) ∧
    (b.state = .closing ∨ b.state = .dwell ∨ b.state = .settling → b.openSwitches now =
      { b with state := .opening, crossing := false, drvP := false, drvN := false, timeout := 0, watchP := 0,
               watchN := 0, entryTime := now, sampled := false }) ∧
    (b.state = .opening → b.openSwitches now = { b with crossing := false }) ∧
    (b.state = .parked ∨ b.state = .faulted → b.openSwitches now = b)

/-- SAMPLE_EVENT (R64, R65, R84 to R87): both codes are converted with the gain of their channel and replace the latest
sample; in SETTLING the sample joins the settle window of the net that granted the bridge, and a window that passes the
settle test ends the phase as settled. -/
def Obligations.SampleEventConverts : Prop :=
  ∀ (b : BridgeId) (cp cn : BitVec 16) (s v : State) (x : Sample), s.Running → (s.bridge b).cause ≠ some .trim →
    x.up = min 16000 ((cp.toNat * (s.bridge b).trim.gainP.toNat + 131072) / 262144) →
    x.un = min 16000 ((cn.toNat * (s.bridge b).trim.gainN.toNat + 131072) / 262144) →
    (x.overRange = true ↔ cp.toNat = 65535 ∨ cn.toNat = 65535 ∨
      16000 < (cp.toNat * (s.bridge b).trim.gainP.toNat + 131072) / 262144 ∨
      16000 < (cn.toNat * (s.bridge b).trim.gainN.toNat + 131072) / 262144) →
    v = (s.modBridge b fun r => { r with up := x.up, un := x.un, overRange := x.overRange }) →
    ((s.bridge b).state ≠ .settling → s.Happens (.sampleEvent b cp cn) v) ∧
    (∀ n c win, (s.bridge b).state = .settling → s.netOfBridge b = some n → n.inProgress = true → n.grant = some b →
      n.confirmation = some c → win = (if n.window.length < 8 then n.window ++ [x]
        else (n.window ++ [x]).drop (n.window.length - 7)) →
      (¬ (win.length = 8 ∧ ∀ y ∈ win, ∀ z ∈ win, y.up ≤ z.up + c.epsilon ∧ y.un ≤ z.un + c.epsilon) →
        s.Happens (.sampleEvent b cp cn) (v.modNet n.anchor fun m => { m with window := win })) ∧
      ((win.length = 8 ∧ ∀ y ∈ win, ∀ z ∈ win, y.up ≤ z.up + c.epsilon ∧ y.un ≤ z.un + c.epsilon) →
        (n.state = .phaseP →
          s.Happens (.sampleEvent b cp cn)
            ((v.modNet n.anchor fun m =>
              { m with
                state := .phaseN, confirmation := none, window := [],
                phaseP := some
                  { up := ((win.map (·.up)).sum + 4) / 8, un := ((win.map (·.un)).sum + 4) / 8,
                    overRange := win.any (·.overRange), unsettled := false } }).modBridge b (·.cross s.uptime))) ∧
        (∀ p g, n.state = .phaseN → n.phaseP = some p → (s.bridge b).references = some g →
          s.Happens (.sampleEvent b cp cn)
            (v.complete n b g p
              { up := ((win.map (·.up)).sum + 4) / 8, un := ((win.map (·.un)).sum + 4) / 8,
                overRange := win.any (·.overRange), unsettled := false }))))

/-- CLOSE_CONFIRMATION (R69, R82): the bridge enters DWELL, and the net that granted it captures the confirmation time and the
phase parameters. -/
def Obligations.CloseConfirmation : Prop :=
  ∀ (b : BridgeId) (s v : State), s.Running → (s.bridge b).state = .closing → (s.bridge b).sampled = true →
    (s.bridge b).timeout < 20 → (s.bridge b).sense? (s.bridge b).phase = true →
    v = (s.modBridge b fun r =>
      { r with state := .dwell, entryTime := s.uptime, watchP := 0, watchN := 0, sampled := false }) →
    (∀ n, s.netOfBridge b = some n → n.inProgress = true → n.grant = some b →
      s.Happens (.closeConfirmation b) (v.modNet n.anchor fun m =>
        { m with
          confirmation := some { time := s.uptime, minDwell := s.timing.minDwell, maxDwell := s.timing.maxDwell,
                                 epsilon := s.timing.epsilon },
          window := [] })) ∧
    ((∀ n, s.netOfBridge b = some n → n.inProgress = false ∨ n.grant ≠ some b) → s.Happens (.closeConfirmation b) v)

/-- OPEN_CONFIRMATION (R71, R89, R51, R58): in a crossover the bridge closes its N side; else it is PARKED and reports its
arrival, which ends the RELEASE of the net that granted it, or is a test of a net that waits. That a quiet timer counts as
over once its expiry was taken, and otherwise from the millisecond after its expiry on, is the model's reading of R51
(assumption log 10). -/
def Obligations.OpenConfirmation : Prop :=
  ∀ (b : BridgeId) (s v : State), s.Running → (s.bridge b).state = .opening → (s.bridge b).sampled = true →
    (s.bridge b).timeout < 20 → (s.bridge b).snsP = false → (s.bridge b).snsN = false →
    v = (s.modBridge b fun r =>
      { r with state := .parked, entryTime := s.uptime, crossing := false, watchP := 0, watchN := 0, drvP := false,
               drvN := false, sampled := false }) →
    ((s.bridge b).crossing = true →
      s.Happens (.openConfirmation b) (s.modBridge b fun r =>
        { r with state := .closing, phase := .n, drvP := false, drvN := true, crossing := false, timeout := 0,
                 watchP := 0, watchN := 0, entryTime := s.uptime, sampled := false })) ∧
    ((s.bridge b).crossing = false → s.netOfBridge b = none → s.Happens (.openConfirmation b) v) ∧
    (∀ n w, (s.bridge b).crossing = false → s.netOfBridge b = some n → s.netAt n.anchor = some n →
      w = (v.modNet n.anchor fun m =>
        { m with
          state := .rest, grant := none, cycleStart := none, phaseP := none, covered := [], confirmation := none,
          window := [], quiet := none, startPending := false, reason := none,
          spacing := some { start := s.uptime, length := s.timing.spacing } }) →
      (n.state = .release → n.grant = some b →
        s.Happens (.openConfirmation b)
          (if s.timing.spacing = 0 ∨ ∃ x ∈ n.members, ∃ g, s.seg x = some g ∧ g.spot ≠ none then w.startCycle n.anchor
           else w)) ∧
      (¬ (n.state = .release ∧ n.grant = some b) →
        s.Happens (.openConfirmation b)
          (if (n.state = .quiet ∧ (∃ q, n.quiet = some q ∧ (q.expired = true ∨ q.length < (s.uptime - q.start).toNat)) ∧
                ∀ c ∈ n.bridges, (v.bridge c).state = .parked ∨ (v.bridge c).state = .faulted) ∨
              (n.state = .rest ∧ n.startPending = true ∧ ∃ c ∈ n.bridges, (v.bridge c).state = .parked)
           then v.startCycle n.anchor else v)))

/-- The six switch faults (R69 to R74): the condition of each row, the cause it records, and the entry into FAULTED with
BRIDGE_FAULT raised and the topology event handed over. -/
def Obligations.SwitchFaults : Prop :=
  ∀ (b : BridgeId) (s : State) (c : Instr) (cause : FaultCause), s.Running →
    ((c = .closeTimeout b ∧ cause = .closeTimeout ∧ (s.bridge b).state = .closing ∧ 20 ≤ (s.bridge b).timeout) ∨
     (c = .openTimeout b ∧ cause = .openTimeout ∧ (s.bridge b).state = .opening ∧ 20 ≤ (s.bridge b).timeout) ∨
     (c = .senseDropout b ∧ cause = .closeTimeout ∧
        ((s.bridge b).state = .dwell ∨ (s.bridge b).state = .settling) ∧
        20 ≤ (s.bridge b).count (s.bridge b).phase) ∨
     (c = .stuckOppositeSense b ∧ cause = .stuck ∧
        ((s.bridge b).state = .closing ∨ (s.bridge b).state = .dwell ∨ (s.bridge b).state = .settling) ∧
        ∃ side, side ≠ (s.bridge b).phase ∧ 20 ≤ (s.bridge b).count side) ∨
     (c = .stuckInParked b ∧ cause = .stuck ∧ (s.bridge b).state = .parked ∧ ∃ side, 20 ≤ (s.bridge b).count side) ∨
     (c = .stuckEscalation b ∧ cause = .stuck ∧ (s.bridge b).state = .faulted ∧
        ((s.bridge b).cause = some .closeTimeout ∨ (s.bridge b).cause = some .openTimeout) ∧
        ∃ side, 20 ≤ (s.bridge b).count side)) →
    s.Happens c
      { s.modBridge b (fun r => { r with
          state := .faulted, cause := some cause, crossing := false, timeout := 0, watchP := 0, watchN := 0,
          entryTime := s.uptime, drvP := false, drvN := false, sampled := false }) with
        devPending := s.devPending ||| 0b1000#4,
        devRepeated := s.devRepeated || s.devPending &&& 0b1000#4 != 0#4 }.recompute

/-! ## The nets and their cycles -/

/-- A cycle start is granted to the first PARKED bridge of the rotation, the cycle logic records the covered spots and
issues CLOSE P (R57, R80, R81); with no PARKED bridge a net in REST keeps its start pending and loses its spacing (R58,
R90). Each anchor names one net (R41). -/
def Obligations.CycleStartGrants : Prop :=
  ∀ (s : State) (a : SegId) (n : Net), s.netAt a = some n → (∀ m ∈ s.nets, m.anchor = a → m = n) →
    (∀ b, s.Grantee n b →
      s.startCycle a =
        (s.modNet a fun m =>
          { m with
            state := .phaseP, lastGranted := some b, grant := some b, cycleStart := some s.uptime,
            covered := n.members.filter fun x => (s.seg x).any (·.spot.isSome), startPending := false, quiet := none,
            spacing := none, reason := none, phaseP := none, confirmation := none,
            window := [] }).modBridge b (·.closeP s.uptime)) ∧
    ((∀ b ∈ n.bridges, (s.bridge b).state ≠ .parked) → n.state = .rest →
      s.startCycle a = s.modNet a fun m => { m with startPending := true, spacing := none })

/-- DWELL_TIMER_EXPIRY (R83): the granted bridge leaves DWELL for SETTLING. -/
def Obligations.DwellTimerExpiry : Prop :=
  ∀ (a : SegId) (n : Net) (b : BridgeId) (c : Confirmation) (s : State), s.Running → s.netAt a = some n →
    (n.state = .phaseP ∨ n.state = .phaseN) → n.grant = some b → n.confirmation = some c →
    c.minDwell ≤ (s.uptime - c.time).toNat → (s.bridge b).state = .dwell →
    s.Happens (.dwellTimerExpiry a) (s.modBridge b fun r =>
      { r with state := .settling, entryTime := s.uptime, watchP := 0, watchN := 0, sampled := false })

/-- MAX_DWELL_TIMER_EXPIRY (R86, R85, R87, R88): the phase ends as unsettled with the mean of the eight samples held; phase
P crosses over, phase N completes the cycle. -/
def Obligations.MaxDwellTimerExpiry : Prop :=
  ∀ (a : SegId) (n : Net) (b : BridgeId) (c : Confirmation) (v : PhaseValues) (s : State), s.Running →
    s.netAt a = some n → n.grant = some b → n.confirmation = some c → c.maxDwell ≤ (s.uptime - c.time).toNat →
    n.window.length = 8 →
    v = { up := ((n.window.map (·.up)).sum + 4) / 8, un := ((n.window.map (·.un)).sum + 4) / 8,
          overRange := n.window.any (·.overRange), unsettled := true } →
    (n.state = .phaseP →
      s.Happens (.maxDwellTimerExpiry a)
        ((s.modNet a fun m => { m with state := .phaseN, confirmation := none, window := [], phaseP := some v }).modBridge
          b (·.cross s.uptime))) ∧
    (∀ p g, n.state = .phaseN → n.phaseP = some p → (s.bridge b).references = some g →
      s.Happens (.maxDwellTimerExpiry a) (s.complete n b g p v))

/-- QUIET_TIMER_EXPIRY (R51): the expiry is taken, and the cycle starts if every bridge of the set is PARKED or FAULTED;
SPACING_EXPIRY (R90): the next cycle starts. -/
def Obligations.QuietAndSpacingExpiry : Prop :=
  ∀ (a : SegId) (n : Net) (s : State), s.Running → s.netAt a = some n →
    (∀ q u, n.state = .quiet → n.quiet = some q → q.length ≤ (s.uptime - q.start).toNat →
      u = (s.modNet a fun m => { m with quiet := m.quiet.map fun q => { q with expired := true } }) →
      s.Happens (.quietTimerExpiry a)
        (if ∀ b ∈ n.bridges, (s.bridge b).state = .parked ∨ (s.bridge b).state = .faulted then u.startCycle a else u)) ∧
    (∀ q, n.state = .rest → n.spacing = some q → q.length ≤ (s.uptime - q.start).toNat →
      s.Happens (.spacingExpiry a) (s.startCycle a))

/-- The completion of a cycle (R88, R95, R107, R124): OPEN to the bridge, the calculator's result as the net's last result,
RELEASE with the grant held, the members written by attribution only for VALID and DEGRADED, and every covered spot
answered, on what the attribution left; no other segment, no other net and no other bridge changes. -/
def Obligations.CompletionRecordsAndAnswers : Prop :=
  ∀ (s t : State) (n : Net) (b : BridgeId) (g : References) (p v : PhaseValues) (r : CalcResult),
    r = calculate g s.timing.lowVoltage p v → t = s.complete n b g p v →
    t.tables = s.tables ∧ t.port = s.port ∧ (∀ c, t.bridge c = if c = b then (s.bridge b).openSwitches s.uptime else s.bridge c) ∧
    t.nets = s.nets.map (fun m => if m.anchor = n.anchor then
      { m with
        state := .release, phaseP := none, covered := [], confirmation := none, window := [],
        lastResult := some { outcome := r.outcome, gp := r.gp, gn := r.gn, s1 := r.s1, s2 := r.s2, time := s.uptime } }
      else m) ∧
    (∀ x, s.seg x = none → t.seg x = none) ∧
    (∀ x h, s.seg x = some h → x ∉ n.covered → (x ∉ n.members ∨ (r.outcome ≠ .valid ∧ r.outcome ≠ .degraded)) →
      t.seg x = some h) ∧
    (∀ x h, s.seg x = some h → x ∈ n.covered → (x ∉ n.members ∨ (r.outcome ≠ .valid ∧ r.outcome ≠ .degraded)) →
      t.seg x = some { h with
        spot := none, lastSpot := some r.outcome, pending := h.pending ||| 0x02#8,
        repeated := h.repeated || h.pending &&& 0x02#8 != 0#8 }) ∧
    (∀ gp gn x, r.gp = some gp → r.gn = some gn → x ∈ n.members → x ∉ n.covered →
      t.seg x = (s.attribute n.members (r.outcome == .degraded) gp gn).seg x) ∧
    (∀ gp gn x h, r.gp = some gp → r.gn = some gn → x ∈ n.members → x ∈ n.covered →
      (s.attribute n.members (r.outcome == .degraded) gp gn).seg x = some h →
      t.seg x = some { h with
        spot := none, lastSpot := some r.outcome, pending := h.pending ||| 0x02#8,
        repeated := h.repeated || h.pending &&& 0x02#8 != 0#8 })

/-- The seven stages of the calculation in order, each exact (R101 to R107). -/
def Obligations.StagedCalculation : Prop :=
  ∀ (g : References) (limit : Nat) (p n : PhaseValues) (s1 s2 : Nat) (d : Int),
    s1 = p.up + p.un → s2 = n.up + n.un → d = (n.up : Int) * p.un - (p.up : Int) * n.un →
    (p.overRange = true ∨ n.overRange = true →
      calculate g limit p n = { outcome := .overRange, s1 := none, s2 := none, gp := none, gn := none }) ∧
    (p.overRange = false → n.overRange = false → s1 < limit ∨ s2 < limit ∨ s1 = 0 ∨ s2 = 0 →
      calculate g limit p n = { outcome := .lowVoltage, s1 := some s1, s2 := some s2, gp := none, gn := none }) ∧
    (p.overRange = false → n.overRange = false → limit ≤ s1 → limit ≤ s2 → 0 < s1 → 0 < s2 →
      (((max s1 s2 : Nat) : Int) < 8 * |(s1 : Int) - s2| →
        calculate g limit p n = { outcome := .unsteady, s1 := some s1, s2 := some s2, gp := none, gn := none }) ∧
      (8 * |(s1 : Int) - s2| ≤ ((max s1 s2 : Nat) : Int) → d ≤ 0 →
        calculate g limit p n = { outcome := .indeterminate, s1 := some s1, s2 := some s2, gp := none, gn := none }) ∧
      (∀ qp qn : Nat, 8 * |(s1 : Int) - s2| ≤ ((max s1 s2 : Nat) : Int) → 0 < d →
        qp = (n.un * (p.up * g.grP + p.un * g.grN) + d.toNat / 2) / d.toNat →
        qn = (p.up * (n.up * g.grP + n.un * g.grN) + d.toNat / 2) / d.toNat →
        calculate g limit p n =
          { outcome := if p.unsettled = true ∨ n.unsettled = true ∨ 100000000 < qp ∨ 100000000 < qn then .degraded
              else .valid,
            s1 := some s1, s2 := some s2, gp := some (min 100000000 qp), gn := some (min 100000000 qn) }))

/-- The resistance conversion (R109): 100,000 kΩ up to 10,000 pS, else 10^9 / G rounded half up, which lies in 10 to 99,990
for G up to G_MAX; a larger conductance never gives a larger resistance. -/
def Obligations.ResistanceConversion : Prop :=
  (∀ g, g ≤ 10000 → resistance g = 100000) ∧
  (∀ g, 10000 < g → resistance g = (10 ^ 9 + g / 2) / g) ∧
  (∀ g, 10000 < g → g ≤ 100000000 → 10 ≤ resistance g ∧ resistance g ≤ 99990) ∧
  (∀ g h, g ≤ h → resistance h ≤ resistance g)

/-- The thresholds (R5, R110, R111) of clamped properties: the divisors and the on values before the limit lie in their
ranges, the on values are rounded half up and stored at most G_MAX, the off values lie one eighth below; they lie in
133,333 to 100,000,000 and 116,667 to 87,500,000 pS and keep their order. -/
def Obligations.ThresholdsOfProperties : Prop :=
  ∀ v ff wf : Nat, 100 ≤ v → v ≤ 1500 → 50 ≤ ff → ff ≤ 2000 → ff ≤ wf → wf ≤ 5000 →
    5000 ≤ ff * v ∧ wf * v ≤ 7500000 ∧ (10 ^ 12 + ff * v / 2) / (ff * v) ≤ 200000000 ∧
    133333 ≤ (10 ^ 12 + wf * v / 2) / (wf * v) ∧
    ∃ t, thresholdsOf v ff wf = t ∧ t.faultOn = min 100000000 ((10 ^ 12 + ff * v / 2) / (ff * v)) ∧
      t.warnOn = min 100000000 ((10 ^ 12 + wf * v / 2) / (wf * v)) ∧ t.faultOff = t.faultOn - t.faultOn / 8 ∧
      t.warnOff = t.warnOn - t.warnOn / 8 ∧ 133333 ≤ t.warnOn ∧ t.warnOn ≤ t.faultOn ∧ t.faultOn ≤ 100000000 ∧
      116667 ≤ t.warnOff ∧ t.warnOff ≤ t.faultOff ∧ t.faultOff ≤ 87500000 ∧ t.warnOff + 16666 ≤ t.warnOn ∧
      t.faultOff + 16666 ≤ t.faultOn

/-- An evaluation of the alarm (R127, R128, R129, R132, R133): a record of quality NONE, an externally supervised one and a
latched one keep theirs; any other takes the first matching row of the table in force, and every change raises its
transition notices and changes nothing else. -/
def Obligations.AlarmEvaluation : Prop :=
  ∀ (g : Segment) (on : Bool) (a : Alarm), (on = true ↔ g.enables &&& 0x30#8 ≠ 0#8) →
    (a = .fault ↔ (g.alarm ≠ .fault ∧ g.thresholds.faultOn ≤ max g.gp g.gn) ∨
      (g.alarm = .fault ∧ g.thresholds.faultOff ≤ max g.gp g.gn)) →
    (a = .warn ↔ on = true ∧
      ((g.alarm = .clear ∧ max g.gp g.gn < g.thresholds.faultOn ∧ g.thresholds.warnOn ≤ max g.gp g.gn) ∨
       (g.alarm = .warn ∧ max g.gp g.gn < g.thresholds.faultOn ∧ g.thresholds.warnOff ≤ max g.gp g.gn) ∨
       (g.alarm = .fault ∧ max g.gp g.gn < g.thresholds.faultOff ∧ g.thresholds.warnOff ≤ max g.gp g.gn))) →
    (g.quality = .none ∨ g.ext = true ∨ (g.latch = true ∧ g.alarm = .fault) → g.evaluate = g) ∧
    (g.quality ≠ .none → g.ext = false → ¬ (g.latch = true ∧ g.alarm = .fault) →
      (a = g.alarm → g.evaluate = g) ∧
      (a ≠ g.alarm → g.evaluate = g.movedTo a))

/-- Attribution of a net result (R112 to R123): the case is chosen from the records on entry, the members it names are
written with the common effects, and no other record changes. -/
def Obligations.AttributionCases : Prop :=
  ∀ (s : State) (ms : List SegId) (dg : Bool) (gp gn sp sn tp tn : Nat) (known : SegId → Prop)
    (wr : Segment → Quality → Nat → Nat → Segment), ms.Nodup → (∀ x ∈ ms, (s.seg x).isSome) →
    (∀ x, known x ↔ ∃ g, s.seg x = some g ∧ (g.quality = .direct ∨ g.quality = .derived) ∧ g.stale = false) →
    sp = ((ms.filter s.known).map fun x => ((s.seg x).map (·.gp)).getD 0).sum →
    sn = ((ms.filter s.known).map fun x => ((s.seg x).map (·.gn)).getD 0).sum →
    tp = max (gp / 8) 50000 → tn = max (gn / 8) 50000 →
    (∀ g q a b, wr g q a b = ({ g with
      gp := a, gn := b, quality := q, attrTime := s.uptime, stale := false, degraded := dg,
      expiry := some (s.uptime + BitVec.ofNat 32 (g.validity * 1000)),
      lowMark := if q = .direct ∨ q = .derived then
          some (match g.lowMark with | none => resistance (max a b) | some m => min m (resistance (max a b)))
        else g.lowMark } : Segment).evaluate) →
    (∀ x, x ∉ ms → (s.attribute ms dg gp gn).seg x = s.seg x) ∧
    (∀ x g, ms = [x] → s.seg x = some g → (s.attribute ms dg gp gn).seg x = some (wr g .direct gp gn)) ∧
    (∀ u x g, u ∈ ms → 2 ≤ ms.length → (∀ y ∈ ms, known y ↔ y ≠ u) → sp ≤ gp + tp → sn ≤ gn + tn → x ∈ ms →
      s.seg x = some g →
      (s.attribute ms dg gp gn).seg x = if x = u then some (wr g .derived (gp - sp) (gn - sn)) else some g) ∧
    (∀ x g, 2 ≤ ms.length → (∀ y ∈ ms, known y) → gp ≤ sp + tp → sp ≤ gp + tp → gn ≤ sn + tn → sn ≤ gn + tn →
      x ∈ ms → s.seg x = some g →
      (s.attribute ms dg gp gn).seg x = some ({ g with
        attrTime := s.uptime, stale := false, degraded := dg,
        expiry := some (s.uptime + BitVec.ofNat 32 (g.validity * 1000)) } : Segment).evaluate) ∧
    (∀ u w x g, u ∈ ms → w ∈ ms → u ≠ w → ¬ known u → ¬ known w → x ∈ ms → s.seg x = some g →
      (¬ known x → (s.attribute ms dg gp gn).seg x = some (wr g .shared gp gn)) ∧
      (known x → (s.attribute ms dg gp gn).seg x = some g)) ∧
    (∀ x g, 2 ≤ ms.length → x ∈ ms → s.seg x = some g →
      ((∃ u ∈ ms, (∀ y ∈ ms, known y ↔ y ≠ u) ∧ (gp + tp < sp ∨ gn + tn < sn)) ∨
       ((∀ y ∈ ms, known y) ∧ (sp + tp < gp ∨ gp + tp < sp ∨ sn + tn < gn ∨ gn + tn < sn))) →
      ∀ w, w = wr g .shared gp gn → (s.attribute ms dg gp gn).seg x = some { w with
        pending := w.pending ||| 0x01#8, repeated := w.repeated || w.pending &&& 0x01#8 != 0#8 })

/-- The components the resolver forms are the classes of DEFINED segments joined by a path of effectively CLOSED DEFINED
links, each in ascending order, listed in ascending order of their lowest ids (R41, R43). -/
def Obligations.ComponentsArePaths : Prop :=
  ∀ s : State,
    (∀ x y : SegId, (∃ c ∈ s.components, x ∈ c ∧ y ∈ c) ↔
      (s.seg x).isSome ∧ (s.seg y).isSome ∧ Relation.ReflTransGen s.Adjacent x y) ∧
    (∀ c ∈ s.components, c ≠ [] ∧ c.Pairwise (· < ·)) ∧
    (s.components.Pairwise fun c d => (∀ x, x ∈ c → x ∉ d) ∧ ∀ x ∈ c.head?, ∀ y ∈ d.head?, x < y)

/-- The recompute of a topology event (R41 to R51, R53, R54, R58, R132, R137), from held records that need not match the
tables any more: the nets are the components, each with its bridge set and its supervision; a new net has a fresh record in
the state its supervision gives, and NET_CHANGE on its members; a carried OWN net that keeps its grant, or that waits in
QUIET or REST, is undisturbed, but for the test that starts its cycle on the first PARKED bridge of the rotation (R57). When
that test counts a quiet timer as expired is the model's reading (assumption log 10). The externally-supervised flags, the
pending spots and the alarms follow the nets: every segment that no BRIDGE_FAULT answers has the record written out last.
Nothing but segments, nets and bridges changes. -/
def Obligations.RecomputeDerivesNets : Prop :=
  ∀ s t : State, s.NetsApart → s.NetsSound → t = s.recompute →
    t.NetsAreComponents ∧ t.NetsSound ∧ t = { s with segs := t.segs, nets := t.nets, bridges := t.bridges } ∧
    (∀ x, s.seg x = none → t.seg x = none) ∧
    (∀ n ∈ t.nets, n.bridges = s.bridgeSet n.members ∧
      (n.supervision, n.reason) = s.supervise n.members (s.bridgeSet n.members)) ∧
    (∀ n ∈ t.nets, (∀ m ∈ s.nets, m.members ≠ n.members) →
      n.grant = none ∧ n.lastGranted = none ∧ n.lastResult = none ∧ n.cycleStart = none ∧ n.phaseP = none ∧
      n.startPending = false ∧ n.covered = [] ∧ n.confirmation = none ∧ n.window = [] ∧ n.spacing = none ∧
      (n.supervision = .own → n.state = .quiet ∧
        n.quiet = some { start := s.uptime, length := s.timing.quiet, expired := false }) ∧
      ∀ x ∈ n.members, ∀ h, t.seg x = some h → h.pending &&& 0x04#8 ≠ 0#8) ∧
    (∀ m ∈ s.nets, ∀ n ∈ t.nets, n.members = m.members →
      (m.state = .phaseP ∨ m.state = .phaseN ∨ m.state = .release) → n.supervision = .own →
      (∀ b, m.grant = some b → b ∈ s.bridgeSet m.members ∧ (s.bridge b).state ≠ .faulted) →
      n = { m with bridges := s.bridgeSet m.members }) ∧
    (∀ m ∈ s.nets, ∀ n ∈ t.nets, ∀ k, n.members = m.members → m.state = .quiet ∨ m.state = .rest → n.supervision = .own →
      k = { m with bridges := s.bridgeSet m.members } →
      (¬ s.WaitIsOver m k.bridges → n = k) ∧
      (s.WaitIsOver m k.bridges → ∃ b, s.Grantee k b ∧ t.bridge b = (s.bridge b).closeP s.uptime ∧
        n = { k with
          state := .phaseP, lastGranted := some b, grant := some b, cycleStart := some s.uptime,
          covered := n.members.filter fun x => (t.seg x).any (·.spot.isSome), startPending := false, quiet := none,
          spacing := none, reason := none, phaseP := none, confirmation := none, window := [] })) ∧
    (∀ m ∈ s.nets, ∀ n ∈ t.nets, n.members = m.members → ∀ x ∈ n.members, ∀ g h, s.seg x = some g → t.seg x = some h →
      h.pending &&& 0x04#8 = g.pending &&& 0x04#8) ∧
    (∀ n ∈ t.nets, ∀ x ∈ n.members, ∀ g h, s.seg x = some g → t.seg x = some h →
      (h.ext = true ↔ n.state = .external) ∧
      (n.state = .external ∨ n.state = .unmeasurable → h.spot = none) ∧
      (n.state = .external → s.verdict n.members = .fault → h.alarm = .fault) ∧
      (n.state = .external → s.verdict n.members = .ok →
        h.alarm = if g.alarm = .fault ∧ g.latch = true then .fault else .clear) ∧
      (n.state ≠ .external → h.alarm = g.alarm)) ∧
    (∀ n ∈ t.nets, ∀ x ∈ n.members, ∀ g h, ∀ alarm : Alarm, ∀ change answer moved : BitVec 8,
      s.seg x = some g → t.seg x = some h →
      (∀ m ∈ s.nets, ∀ b, x ∈ m.covered → m.grant = some b → (s.bridge b).state ≠ .faulted) →
      alarm = (if n.state ≠ .external then g.alarm else if s.verdict n.members = .fault then .fault
        else if g.alarm = .fault ∧ g.latch = true then .fault else .clear) →
      change = (if ∃ m ∈ s.nets, m.members = n.members then 0x00#8 else 0x04#8) →
      answer = (if g.spot.isSome ∧ (n.state = .external ∨ n.state = .unmeasurable) then 0x02#8 else 0x00#8) →
      moved = movedBits g.alarm alarm →
      h = { g with
        ext := decide (n.state = .external), alarm := alarm, spot := if answer = 0x02#8 then none else g.spot,
        lastSpot := if answer = 0x02#8 then some (if n.state = .external then .external else .noMeasurement)
          else g.lastSpot,
        pending := g.pending ||| (change ||| answer ||| moved),
        repeated := g.repeated || g.pending &&& (change ||| answer ||| moved) != 0#8 })

/-- What a recompute does to the grants and cycles it takes away, and to the nets that change their supervision (R44, R45,
R47, R49, R50, R53, R91, R92). The granted bridge of a former
net, and of a carried net that loses its grant, is commanded to OPEN; no other bridge changes but one that a waiting net is
granted. The carried net ends its cycle with BRIDGE_FAULT where its granted bridge is FAULTED and the net not EXTERNAL, else
with ABANDONED, as its last result with no values, and is in QUIET, EXTERNAL or UNMEASURABLE with no field of the cycle
left; in RELEASE its last result stays. A carried net that was EXTERNAL or UNMEASURABLE is put into the state of its
supervision, QUIET with a new quiet period for OWN, with its last-granted bridge and its last result kept. BRIDGE_FAULT
answers the covered spots, and in an OWN net every other spot stays as it was. -/
def Obligations.InterruptedCycles : Prop :=
  ∀ s t : State, s.NetsApart → s.NetsSound → t = s.recompute →
    (∀ m ∈ s.nets, ∀ b, m.grant = some b → (s.bridge b).state ≠ .parked → (∀ n ∈ t.nets, n.members ≠ m.members) →
      t.bridge b = (s.bridge b).openSwitches s.uptime) ∧
    (∀ b, (∀ m ∈ s.nets, m.grant = some b → ∃ n ∈ t.nets, n.members = m.members ∧ n.grant = some b) →
      t.bridge b = s.bridge b ∨
        ((s.bridge b).state = .parked ∧ t.bridge b = (s.bridge b).closeP s.uptime ∧ ∃ n ∈ t.nets, n.grant = some b)) ∧
    (∀ m ∈ s.nets, ∀ n ∈ t.nets, ∀ b o, n.members = m.members → m.grant = some b →
      (b ∉ s.bridgeSet m.members ∧ (s.bridge b).state ≠ .faulted) ∨
        (b ∈ s.bridgeSet m.members ∧ (s.bridge b).state = .faulted) ∨ n.supervision ≠ .own →
      o = (if (s.bridge b).state = .faulted ∧ n.supervision ≠ .external then CycleOutcome.bridgeFault else .abandoned) →
      ((s.bridge b).state ≠ .parked → t.bridge b = (s.bridge b).openSwitches s.uptime) ∧
      n = { m.placed (s.bridgeSet m.members) n.supervision n.reason s.uptime s.timing.quiet with
        lastResult := if m.state = .phaseP ∨ m.state = .phaseN then
            some { outcome := o, gp := none, gn := none, s1 := none, s2 := none, time := s.uptime }
          else m.lastResult } ∧
      (o = .bridgeFault → m.state = .phaseP ∨ m.state = .phaseN → ∀ x ∈ m.covered, ∀ h, t.seg x = some h →
        h.spot = none ∧ h.lastSpot = some .bridgeFault ∧ h.pending &&& 0x02#8 ≠ 0#8)) ∧
    (∀ m ∈ s.nets, ∀ n ∈ t.nets, n.members = m.members → m.supervision ≠ .own →
      n = m.placed (s.bridgeSet m.members) n.supervision n.reason s.uptime s.timing.quiet) ∧
    (∀ n ∈ t.nets, ∀ x ∈ n.members, ∀ g h, n.supervision = .own → s.seg x = some g → t.seg x = some h →
      (∀ m ∈ s.nets, ∀ b, x ∈ m.covered → m.grant = some b → (s.bridge b).state ≠ .faulted) →
      h.spot = g.spot ∧ h.lastSpot = g.lastSpot)

/-! ## Laws that every step keeps -/

/-- FAULT_N and ALERT_N follow their conditions after every step (R140, R141, R150, R154). -/
def Obligations.LinesFollowIsKept : Prop :=
  ∀ s t : State, s.LinesFollow → step s = .next t → t.LinesFollow

/-- Every DEFINED link joins two distinct DEFINED segments (R23), and the attachments of bridges and segments name each
other (R76), after every step. -/
def Obligations.TablesAgreeIsKept : Prop :=
  ∀ s t : State, s.LinksJoinSegments → s.AttachmentsAgree → step s = .next t →
    t.LinksJoinSegments ∧ t.AttachmentsAgree

/-- The nets are the components of the tables (R41), their states go with their supervision (R40), and no drive is on
except on the granted bridge of an OWN net in PHASE_P or PHASE_N, never both and never FAULTED (R67), after every
step. So the nets follow the tables: the bridge set (R43) and the supervision (R48) of every net, the externally-supervised
flag of every member (R53), and no pending spot in an EXTERNAL or UNMEASURABLE net (R47). And every
net holds the fields of its cycle and its rest exactly while its state needs them (R80), its granted bridge in a state that
the net's state allows (section 5.1); a bridge holds reference conductances unless its cause is TRIM (R62). -/
def Obligations.SwitchLawsAreKept : Prop :=
  ∀ s t : State, s.SwitchLaws → step s = .next t →
    t.SwitchLaws ∧ (s.NetsFollowTables → t.NetsFollowTables ∧ (s.CyclesHeld → t.CyclesHeld))

/-- The fields of every DEFINED segment record, of every DEFINED link record and of the timing parameters stay in their
ranges and agree with each other after every step (R2, R5, R11, R12, R15, R25, R33, R96, R106, R129), and the sensed state
of every SENSED or CHECKED link follows the filtered level of its line through its polarity (R32). -/
def Obligations.RangesAreKept : Prop :=
  ∀ s t : State, step s = .next t →
    (s.SegmentsSound → t.SegmentsSound) ∧ (s.LinksSound → t.LinksSound) ∧
    (s.LinksFollowLines → t.LinksFollowLines) ∧ (s.timing.Sound → t.timing.Sound)

/-- Right after a power-on reset all tables are empty, RESTARTED is pending and enabled, so ALERT_N is asserted, and every law
of the part holds (R21, R38, R60, R79, R154, R160). That every bridge is PARKED and no TRIM_FAULT is pending rests on the
trim words the model names (assumption log 1), and that the part runs on its choice of RESET_N HIGH and a valid supply
(assumption log 2). -/
def Obligations.ResetIsSound : Prop :=
  State.reset.Sound ∧ State.reset.Running ∧ State.reset.uptime = 0#32 ∧ (∀ x, State.reset.seg x = none) ∧
  (∀ i, State.reset.link i = none) ∧ State.reset.nets = [] ∧
  (∀ b, (State.reset.bridge b).state = .parked ∧ (State.reset.bridge b).attached = none ∧
    (State.reset.bridge b).drvP = false ∧ (State.reset.bridge b).drvN = false) ∧
  State.reset.devPending = 0b0001#4 ∧ State.reset.devEnables = 0b1111#4 ∧ State.reset.alert = true ∧
  State.reset.faultLine = false ∧ State.reset.port.slot = { status := .nothing, code := 0x00#8, payload := [] }
end

