-- ==== Sys2Proof/Laws/State.lean ====
section
/-! SUPPORT. One lemma per field per update of State, and the reads of the tables after an update. -/

namespace Sys2Proof.Machine

/-! ## Fields an update leaves alone -/

@[simp] theorem State.setSeg_pending (s : State) (x : SegId) (r : Option Segment) : (s.setSeg x r).pending = s.pending := rfl
@[simp] theorem State.setSeg_supplyValid (s : State) (x : SegId) (r : Option Segment) : (s.setSeg x r).supplyValid = s.supplyValid := rfl
@[simp] theorem State.setSeg_resetHigh (s : State) (x : SegId) (r : Option Segment) : (s.setSeg x r).resetHigh = s.resetHigh := rfl
@[simp] theorem State.setSeg_uptime (s : State) (x : SegId) (r : Option Segment) : (s.setSeg x r).uptime = s.uptime := rfl
@[simp] theorem State.setSeg_links (s : State) (x : SegId) (r : Option Segment) : (s.setSeg x r).links = s.links := rfl
@[simp] theorem State.setSeg_nets (s : State) (x : SegId) (r : Option Segment) : (s.setSeg x r).nets = s.nets := rfl
@[simp] theorem State.setSeg_bridges (s : State) (x : SegId) (r : Option Segment) : (s.setSeg x r).bridges = s.bridges := rfl
@[simp] theorem State.setSeg_aux (s : State) (x : SegId) (r : Option Segment) : (s.setSeg x r).aux = s.aux := rfl
@[simp] theorem State.setSeg_ext (s : State) (x : SegId) (r : Option Segment) : (s.setSeg x r).ext = s.ext := rfl
@[simp] theorem State.setSeg_timing (s : State) (x : SegId) (r : Option Segment) : (s.setSeg x r).timing = s.timing := rfl
@[simp] theorem State.setSeg_devPending (s : State) (x : SegId) (r : Option Segment) : (s.setSeg x r).devPending = s.devPending := rfl
@[simp] theorem State.setSeg_devEnables (s : State) (x : SegId) (r : Option Segment) : (s.setSeg x r).devEnables = s.devEnables := rfl
@[simp] theorem State.setSeg_devRepeated (s : State) (x : SegId) (r : Option Segment) : (s.setSeg x r).devRepeated = s.devRepeated := rfl
@[simp] theorem State.setSeg_port (s : State) (x : SegId) (r : Option Segment) : (s.setSeg x r).port = s.port := rfl
@[simp] theorem State.setSeg_alert (s : State) (x : SegId) (r : Option Segment) : (s.setSeg x r).alert = s.alert := rfl
@[simp] theorem State.setSeg_faultLine (s : State) (x : SegId) (r : Option Segment) : (s.setSeg x r).faultLine = s.faultLine := rfl
@[simp] theorem State.mapSegs_pending (s : State) (f : SegId → Segment → Segment) : (s.mapSegs f).pending = s.pending := rfl
@[simp] theorem State.mapSegs_supplyValid (s : State) (f : SegId → Segment → Segment) : (s.mapSegs f).supplyValid = s.supplyValid := rfl
@[simp] theorem State.mapSegs_resetHigh (s : State) (f : SegId → Segment → Segment) : (s.mapSegs f).resetHigh = s.resetHigh := rfl
@[simp] theorem State.mapSegs_uptime (s : State) (f : SegId → Segment → Segment) : (s.mapSegs f).uptime = s.uptime := rfl
@[simp] theorem State.mapSegs_links (s : State) (f : SegId → Segment → Segment) : (s.mapSegs f).links = s.links := rfl
@[simp] theorem State.mapSegs_nets (s : State) (f : SegId → Segment → Segment) : (s.mapSegs f).nets = s.nets := rfl
@[simp] theorem State.mapSegs_bridges (s : State) (f : SegId → Segment → Segment) : (s.mapSegs f).bridges = s.bridges := rfl
@[simp] theorem State.mapSegs_aux (s : State) (f : SegId → Segment → Segment) : (s.mapSegs f).aux = s.aux := rfl
@[simp] theorem State.mapSegs_ext (s : State) (f : SegId → Segment → Segment) : (s.mapSegs f).ext = s.ext := rfl
@[simp] theorem State.mapSegs_timing (s : State) (f : SegId → Segment → Segment) : (s.mapSegs f).timing = s.timing := rfl
@[simp] theorem State.mapSegs_devPending (s : State) (f : SegId → Segment → Segment) : (s.mapSegs f).devPending = s.devPending := rfl
@[simp] theorem State.mapSegs_devEnables (s : State) (f : SegId → Segment → Segment) : (s.mapSegs f).devEnables = s.devEnables := rfl
@[simp] theorem State.mapSegs_devRepeated (s : State) (f : SegId → Segment → Segment) : (s.mapSegs f).devRepeated = s.devRepeated := rfl
@[simp] theorem State.mapSegs_port (s : State) (f : SegId → Segment → Segment) : (s.mapSegs f).port = s.port := rfl
@[simp] theorem State.mapSegs_alert (s : State) (f : SegId → Segment → Segment) : (s.mapSegs f).alert = s.alert := rfl
@[simp] theorem State.mapSegs_faultLine (s : State) (f : SegId → Segment → Segment) : (s.mapSegs f).faultLine = s.faultLine := rfl
@[simp] theorem State.modSeg_pending (s : State) (x : SegId) (f : Segment → Segment) : (s.modSeg x f).pending = s.pending := rfl
@[simp] theorem State.modSeg_supplyValid (s : State) (x : SegId) (f : Segment → Segment) : (s.modSeg x f).supplyValid = s.supplyValid := rfl
@[simp] theorem State.modSeg_resetHigh (s : State) (x : SegId) (f : Segment → Segment) : (s.modSeg x f).resetHigh = s.resetHigh := rfl
@[simp] theorem State.modSeg_uptime (s : State) (x : SegId) (f : Segment → Segment) : (s.modSeg x f).uptime = s.uptime := rfl
@[simp] theorem State.modSeg_links (s : State) (x : SegId) (f : Segment → Segment) : (s.modSeg x f).links = s.links := rfl
@[simp] theorem State.modSeg_nets (s : State) (x : SegId) (f : Segment → Segment) : (s.modSeg x f).nets = s.nets := rfl
@[simp] theorem State.modSeg_bridges (s : State) (x : SegId) (f : Segment → Segment) : (s.modSeg x f).bridges = s.bridges := rfl
@[simp] theorem State.modSeg_aux (s : State) (x : SegId) (f : Segment → Segment) : (s.modSeg x f).aux = s.aux := rfl
@[simp] theorem State.modSeg_ext (s : State) (x : SegId) (f : Segment → Segment) : (s.modSeg x f).ext = s.ext := rfl
@[simp] theorem State.modSeg_timing (s : State) (x : SegId) (f : Segment → Segment) : (s.modSeg x f).timing = s.timing := rfl
@[simp] theorem State.modSeg_devPending (s : State) (x : SegId) (f : Segment → Segment) : (s.modSeg x f).devPending = s.devPending := rfl
@[simp] theorem State.modSeg_devEnables (s : State) (x : SegId) (f : Segment → Segment) : (s.modSeg x f).devEnables = s.devEnables := rfl
@[simp] theorem State.modSeg_devRepeated (s : State) (x : SegId) (f : Segment → Segment) : (s.modSeg x f).devRepeated = s.devRepeated := rfl
@[simp] theorem State.modSeg_port (s : State) (x : SegId) (f : Segment → Segment) : (s.modSeg x f).port = s.port := rfl
@[simp] theorem State.modSeg_alert (s : State) (x : SegId) (f : Segment → Segment) : (s.modSeg x f).alert = s.alert := rfl
@[simp] theorem State.modSeg_faultLine (s : State) (x : SegId) (f : Segment → Segment) : (s.modSeg x f).faultLine = s.faultLine := rfl
@[simp] theorem State.setLink_pending (s : State) (l : LinkId) (r : Option Link) : (s.setLink l r).pending = s.pending := rfl
@[simp] theorem State.setLink_supplyValid (s : State) (l : LinkId) (r : Option Link) : (s.setLink l r).supplyValid = s.supplyValid := rfl
@[simp] theorem State.setLink_resetHigh (s : State) (l : LinkId) (r : Option Link) : (s.setLink l r).resetHigh = s.resetHigh := rfl
@[simp] theorem State.setLink_uptime (s : State) (l : LinkId) (r : Option Link) : (s.setLink l r).uptime = s.uptime := rfl
@[simp] theorem State.setLink_segs (s : State) (l : LinkId) (r : Option Link) : (s.setLink l r).segs = s.segs := rfl
@[simp] theorem State.setLink_nets (s : State) (l : LinkId) (r : Option Link) : (s.setLink l r).nets = s.nets := rfl
@[simp] theorem State.setLink_bridges (s : State) (l : LinkId) (r : Option Link) : (s.setLink l r).bridges = s.bridges := rfl
@[simp] theorem State.setLink_aux (s : State) (l : LinkId) (r : Option Link) : (s.setLink l r).aux = s.aux := rfl
@[simp] theorem State.setLink_ext (s : State) (l : LinkId) (r : Option Link) : (s.setLink l r).ext = s.ext := rfl
@[simp] theorem State.setLink_timing (s : State) (l : LinkId) (r : Option Link) : (s.setLink l r).timing = s.timing := rfl
@[simp] theorem State.setLink_devPending (s : State) (l : LinkId) (r : Option Link) : (s.setLink l r).devPending = s.devPending := rfl
@[simp] theorem State.setLink_devEnables (s : State) (l : LinkId) (r : Option Link) : (s.setLink l r).devEnables = s.devEnables := rfl
@[simp] theorem State.setLink_devRepeated (s : State) (l : LinkId) (r : Option Link) : (s.setLink l r).devRepeated = s.devRepeated := rfl
@[simp] theorem State.setLink_port (s : State) (l : LinkId) (r : Option Link) : (s.setLink l r).port = s.port := rfl
@[simp] theorem State.setLink_alert (s : State) (l : LinkId) (r : Option Link) : (s.setLink l r).alert = s.alert := rfl
@[simp] theorem State.setLink_faultLine (s : State) (l : LinkId) (r : Option Link) : (s.setLink l r).faultLine = s.faultLine := rfl
@[simp] theorem State.modBridge_pending (s : State) (b : BridgeId) (f : Bridge → Bridge) : (s.modBridge b f).pending = s.pending := rfl
@[simp] theorem State.modBridge_supplyValid (s : State) (b : BridgeId) (f : Bridge → Bridge) : (s.modBridge b f).supplyValid = s.supplyValid := rfl
@[simp] theorem State.modBridge_resetHigh (s : State) (b : BridgeId) (f : Bridge → Bridge) : (s.modBridge b f).resetHigh = s.resetHigh := rfl
@[simp] theorem State.modBridge_uptime (s : State) (b : BridgeId) (f : Bridge → Bridge) : (s.modBridge b f).uptime = s.uptime := rfl
@[simp] theorem State.modBridge_segs (s : State) (b : BridgeId) (f : Bridge → Bridge) : (s.modBridge b f).segs = s.segs := rfl
@[simp] theorem State.modBridge_links (s : State) (b : BridgeId) (f : Bridge → Bridge) : (s.modBridge b f).links = s.links := rfl
@[simp] theorem State.modBridge_nets (s : State) (b : BridgeId) (f : Bridge → Bridge) : (s.modBridge b f).nets = s.nets := rfl
@[simp] theorem State.modBridge_aux (s : State) (b : BridgeId) (f : Bridge → Bridge) : (s.modBridge b f).aux = s.aux := rfl
@[simp] theorem State.modBridge_ext (s : State) (b : BridgeId) (f : Bridge → Bridge) : (s.modBridge b f).ext = s.ext := rfl
@[simp] theorem State.modBridge_timing (s : State) (b : BridgeId) (f : Bridge → Bridge) : (s.modBridge b f).timing = s.timing := rfl
@[simp] theorem State.modBridge_devPending (s : State) (b : BridgeId) (f : Bridge → Bridge) : (s.modBridge b f).devPending = s.devPending := rfl
@[simp] theorem State.modBridge_devEnables (s : State) (b : BridgeId) (f : Bridge → Bridge) : (s.modBridge b f).devEnables = s.devEnables := rfl
@[simp] theorem State.modBridge_devRepeated (s : State) (b : BridgeId) (f : Bridge → Bridge) : (s.modBridge b f).devRepeated = s.devRepeated := rfl
@[simp] theorem State.modBridge_port (s : State) (b : BridgeId) (f : Bridge → Bridge) : (s.modBridge b f).port = s.port := rfl
@[simp] theorem State.modBridge_alert (s : State) (b : BridgeId) (f : Bridge → Bridge) : (s.modBridge b f).alert = s.alert := rfl
@[simp] theorem State.modBridge_faultLine (s : State) (b : BridgeId) (f : Bridge → Bridge) : (s.modBridge b f).faultLine = s.faultLine := rfl
@[simp] theorem State.modNet_pending (s : State) (a : SegId) (f : Net → Net) : (s.modNet a f).pending = s.pending := rfl
@[simp] theorem State.modNet_supplyValid (s : State) (a : SegId) (f : Net → Net) : (s.modNet a f).supplyValid = s.supplyValid := rfl
@[simp] theorem State.modNet_resetHigh (s : State) (a : SegId) (f : Net → Net) : (s.modNet a f).resetHigh = s.resetHigh := rfl
@[simp] theorem State.modNet_uptime (s : State) (a : SegId) (f : Net → Net) : (s.modNet a f).uptime = s.uptime := rfl
@[simp] theorem State.modNet_segs (s : State) (a : SegId) (f : Net → Net) : (s.modNet a f).segs = s.segs := rfl
@[simp] theorem State.modNet_links (s : State) (a : SegId) (f : Net → Net) : (s.modNet a f).links = s.links := rfl
@[simp] theorem State.modNet_bridges (s : State) (a : SegId) (f : Net → Net) : (s.modNet a f).bridges = s.bridges := rfl
@[simp] theorem State.modNet_aux (s : State) (a : SegId) (f : Net → Net) : (s.modNet a f).aux = s.aux := rfl
@[simp] theorem State.modNet_ext (s : State) (a : SegId) (f : Net → Net) : (s.modNet a f).ext = s.ext := rfl
@[simp] theorem State.modNet_timing (s : State) (a : SegId) (f : Net → Net) : (s.modNet a f).timing = s.timing := rfl
@[simp] theorem State.modNet_devPending (s : State) (a : SegId) (f : Net → Net) : (s.modNet a f).devPending = s.devPending := rfl
@[simp] theorem State.modNet_devEnables (s : State) (a : SegId) (f : Net → Net) : (s.modNet a f).devEnables = s.devEnables := rfl
@[simp] theorem State.modNet_devRepeated (s : State) (a : SegId) (f : Net → Net) : (s.modNet a f).devRepeated = s.devRepeated := rfl
@[simp] theorem State.modNet_port (s : State) (a : SegId) (f : Net → Net) : (s.modNet a f).port = s.port := rfl
@[simp] theorem State.modNet_alert (s : State) (a : SegId) (f : Net → Net) : (s.modNet a f).alert = s.alert := rfl
@[simp] theorem State.modNet_faultLine (s : State) (a : SegId) (f : Net → Net) : (s.modNet a f).faultLine = s.faultLine := rfl
@[simp] theorem State.raiseDevice_pending (s : State) (k : DevNotice) : (s.raiseDevice k).pending = s.pending := rfl
@[simp] theorem State.raiseDevice_supplyValid (s : State) (k : DevNotice) : (s.raiseDevice k).supplyValid = s.supplyValid := rfl
@[simp] theorem State.raiseDevice_resetHigh (s : State) (k : DevNotice) : (s.raiseDevice k).resetHigh = s.resetHigh := rfl
@[simp] theorem State.raiseDevice_uptime (s : State) (k : DevNotice) : (s.raiseDevice k).uptime = s.uptime := rfl
@[simp] theorem State.raiseDevice_segs (s : State) (k : DevNotice) : (s.raiseDevice k).segs = s.segs := rfl
@[simp] theorem State.raiseDevice_links (s : State) (k : DevNotice) : (s.raiseDevice k).links = s.links := rfl
@[simp] theorem State.raiseDevice_nets (s : State) (k : DevNotice) : (s.raiseDevice k).nets = s.nets := rfl
@[simp] theorem State.raiseDevice_bridges (s : State) (k : DevNotice) : (s.raiseDevice k).bridges = s.bridges := rfl
@[simp] theorem State.raiseDevice_aux (s : State) (k : DevNotice) : (s.raiseDevice k).aux = s.aux := rfl
@[simp] theorem State.raiseDevice_ext (s : State) (k : DevNotice) : (s.raiseDevice k).ext = s.ext := rfl
@[simp] theorem State.raiseDevice_timing (s : State) (k : DevNotice) : (s.raiseDevice k).timing = s.timing := rfl
@[simp] theorem State.raiseDevice_devEnables (s : State) (k : DevNotice) : (s.raiseDevice k).devEnables = s.devEnables := rfl
@[simp] theorem State.raiseDevice_port (s : State) (k : DevNotice) : (s.raiseDevice k).port = s.port := rfl
@[simp] theorem State.raiseDevice_alert (s : State) (k : DevNotice) : (s.raiseDevice k).alert = s.alert := rfl
@[simp] theorem State.raiseDevice_faultLine (s : State) (k : DevNotice) : (s.raiseDevice k).faultLine = s.faultLine := rfl
@[simp] theorem State.raiseChipSelect_pending (s : State) : (s.raiseChipSelect).pending = s.pending := rfl
@[simp] theorem State.raiseChipSelect_supplyValid (s : State) : (s.raiseChipSelect).supplyValid = s.supplyValid := rfl
@[simp] theorem State.raiseChipSelect_resetHigh (s : State) : (s.raiseChipSelect).resetHigh = s.resetHigh := rfl
@[simp] theorem State.raiseChipSelect_uptime (s : State) : (s.raiseChipSelect).uptime = s.uptime := rfl
@[simp] theorem State.raiseChipSelect_segs (s : State) : (s.raiseChipSelect).segs = s.segs := rfl
@[simp] theorem State.raiseChipSelect_links (s : State) : (s.raiseChipSelect).links = s.links := rfl
@[simp] theorem State.raiseChipSelect_nets (s : State) : (s.raiseChipSelect).nets = s.nets := rfl
@[simp] theorem State.raiseChipSelect_bridges (s : State) : (s.raiseChipSelect).bridges = s.bridges := rfl
@[simp] theorem State.raiseChipSelect_aux (s : State) : (s.raiseChipSelect).aux = s.aux := rfl
@[simp] theorem State.raiseChipSelect_ext (s : State) : (s.raiseChipSelect).ext = s.ext := rfl
@[simp] theorem State.raiseChipSelect_timing (s : State) : (s.raiseChipSelect).timing = s.timing := rfl
@[simp] theorem State.raiseChipSelect_devPending (s : State) : (s.raiseChipSelect).devPending = s.devPending := rfl
@[simp] theorem State.raiseChipSelect_devEnables (s : State) : (s.raiseChipSelect).devEnables = s.devEnables := rfl
@[simp] theorem State.raiseChipSelect_devRepeated (s : State) : (s.raiseChipSelect).devRepeated = s.devRepeated := rfl
@[simp] theorem State.raiseChipSelect_alert (s : State) : (s.raiseChipSelect).alert = s.alert := rfl
@[simp] theorem State.raiseChipSelect_faultLine (s : State) : (s.raiseChipSelect).faultLine = s.faultLine := rfl

/-! ## Reads after an update -/

@[simp] theorem State.seg_setSeg (s : State) (x y : SegId) (r : Option Segment) :
    (s.setSeg x r).seg y = if x = y then r else s.seg y := by
  simp only [State.seg, State.setSeg, Fin.getElem_fin, Vector.getElem_set, Fin.ext_iff]

@[simp] theorem State.seg_mapSegs (s : State) (f : SegId → Segment → Segment) (x : SegId) :
    (s.mapSegs f).seg x = (s.seg x).map (f x) := by
  simp [State.seg, State.mapSegs]

@[simp] theorem State.seg_modSeg (s : State) (x y : SegId) (f : Segment → Segment) :
    (s.modSeg x f).seg y = if x = y then (s.seg x).map f else s.seg y := by
  simp only [State.seg, State.modSeg, Fin.getElem_fin, Vector.getElem_set, Fin.ext_iff]

@[simp] theorem State.link_setLink (s : State) (i j : LinkId) (r : Option Link) :
    (s.setLink i r).link j = if i = j then r else s.link j := by
  simp only [State.link, State.setLink, Fin.getElem_fin, Vector.getElem_set, Fin.ext_iff]

@[simp] theorem State.bridge_modBridge (s : State) (b c : BridgeId) (f : Bridge → Bridge) :
    (s.modBridge b f).bridge c = if b = c then f (s.bridge b) else s.bridge c := by
  simp only [State.bridge, State.modBridge, Fin.getElem_fin, Vector.getElem_set, Fin.ext_iff]

@[simp] theorem State.link_setSeg (s : State) (x : SegId) (r : Option Segment) (j : LinkId) : (s.setSeg x r).link j = s.link j := rfl
@[simp] theorem State.bridge_setSeg (s : State) (x : SegId) (r : Option Segment) (c : BridgeId) : (s.setSeg x r).bridge c = s.bridge c := rfl
@[simp] theorem State.running_setSeg (s : State) (x : SegId) (r : Option Segment) : (s.setSeg x r).running = s.running := rfl
@[simp] theorem State.link_mapSegs (s : State) (f : SegId → Segment → Segment) (j : LinkId) : (s.mapSegs f).link j = s.link j := rfl
@[simp] theorem State.bridge_mapSegs (s : State) (f : SegId → Segment → Segment) (c : BridgeId) : (s.mapSegs f).bridge c = s.bridge c := rfl
@[simp] theorem State.running_mapSegs (s : State) (f : SegId → Segment → Segment) : (s.mapSegs f).running = s.running := rfl
@[simp] theorem State.link_modSeg (s : State) (x : SegId) (f : Segment → Segment) (j : LinkId) : (s.modSeg x f).link j = s.link j := rfl
@[simp] theorem State.bridge_modSeg (s : State) (x : SegId) (f : Segment → Segment) (c : BridgeId) : (s.modSeg x f).bridge c = s.bridge c := rfl
@[simp] theorem State.running_modSeg (s : State) (x : SegId) (f : Segment → Segment) : (s.modSeg x f).running = s.running := rfl
@[simp] theorem State.seg_setLink (s : State) (l : LinkId) (r : Option Link) (y : SegId) : (s.setLink l r).seg y = s.seg y := rfl
@[simp] theorem State.bridge_setLink (s : State) (l : LinkId) (r : Option Link) (c : BridgeId) : (s.setLink l r).bridge c = s.bridge c := rfl
@[simp] theorem State.running_setLink (s : State) (l : LinkId) (r : Option Link) : (s.setLink l r).running = s.running := rfl
@[simp] theorem State.seg_modBridge (s : State) (b : BridgeId) (f : Bridge → Bridge) (y : SegId) : (s.modBridge b f).seg y = s.seg y := rfl
@[simp] theorem State.link_modBridge (s : State) (b : BridgeId) (f : Bridge → Bridge) (j : LinkId) : (s.modBridge b f).link j = s.link j := rfl
@[simp] theorem State.running_modBridge (s : State) (b : BridgeId) (f : Bridge → Bridge) : (s.modBridge b f).running = s.running := rfl
@[simp] theorem State.seg_modNet (s : State) (a : SegId) (f : Net → Net) (y : SegId) : (s.modNet a f).seg y = s.seg y := rfl
@[simp] theorem State.link_modNet (s : State) (a : SegId) (f : Net → Net) (j : LinkId) : (s.modNet a f).link j = s.link j := rfl
@[simp] theorem State.bridge_modNet (s : State) (a : SegId) (f : Net → Net) (c : BridgeId) : (s.modNet a f).bridge c = s.bridge c := rfl
@[simp] theorem State.running_modNet (s : State) (a : SegId) (f : Net → Net) : (s.modNet a f).running = s.running := rfl
@[simp] theorem State.seg_raiseDevice (s : State) (k : DevNotice) (y : SegId) : (s.raiseDevice k).seg y = s.seg y := rfl
@[simp] theorem State.link_raiseDevice (s : State) (k : DevNotice) (j : LinkId) : (s.raiseDevice k).link j = s.link j := rfl
@[simp] theorem State.bridge_raiseDevice (s : State) (k : DevNotice) (c : BridgeId) : (s.raiseDevice k).bridge c = s.bridge c := rfl
@[simp] theorem State.running_raiseDevice (s : State) (k : DevNotice) : (s.raiseDevice k).running = s.running := rfl
@[simp] theorem State.seg_raiseChipSelect (s : State) (y : SegId) : (s.raiseChipSelect).seg y = s.seg y := rfl
@[simp] theorem State.link_raiseChipSelect (s : State) (j : LinkId) : (s.raiseChipSelect).link j = s.link j := rfl
@[simp] theorem State.bridge_raiseChipSelect (s : State) (c : BridgeId) : (s.raiseChipSelect).bridge c = s.bridge c := rfl
@[simp] theorem State.running_raiseChipSelect (s : State) : (s.raiseChipSelect).running = s.running := rfl

/-! ## The lines -/

@[simp] theorem State.refreshLines_pending (s : State) : s.refreshLines.pending = s.pending := by
  unfold State.refreshLines; split <;> rfl
@[simp] theorem State.refreshLines_supplyValid (s : State) : s.refreshLines.supplyValid = s.supplyValid := by
  unfold State.refreshLines; split <;> rfl
@[simp] theorem State.refreshLines_resetHigh (s : State) : s.refreshLines.resetHigh = s.resetHigh := by
  unfold State.refreshLines; split <;> rfl
@[simp] theorem State.refreshLines_uptime (s : State) : s.refreshLines.uptime = s.uptime := by
  unfold State.refreshLines; split <;> rfl
@[simp] theorem State.refreshLines_segs (s : State) : s.refreshLines.segs = s.segs := by
  unfold State.refreshLines; split <;> rfl
@[simp] theorem State.refreshLines_links (s : State) : s.refreshLines.links = s.links := by
  unfold State.refreshLines; split <;> rfl
@[simp] theorem State.refreshLines_nets (s : State) : s.refreshLines.nets = s.nets := by
  unfold State.refreshLines; split <;> rfl
@[simp] theorem State.refreshLines_bridges (s : State) : s.refreshLines.bridges = s.bridges := by
  unfold State.refreshLines; split <;> rfl
@[simp] theorem State.refreshLines_aux (s : State) : s.refreshLines.aux = s.aux := by
  unfold State.refreshLines; split <;> rfl
@[simp] theorem State.refreshLines_ext (s : State) : s.refreshLines.ext = s.ext := by
  unfold State.refreshLines; split <;> rfl
@[simp] theorem State.refreshLines_timing (s : State) : s.refreshLines.timing = s.timing := by
  unfold State.refreshLines; split <;> rfl
@[simp] theorem State.refreshLines_devPending (s : State) : s.refreshLines.devPending = s.devPending := by
  unfold State.refreshLines; split <;> rfl
@[simp] theorem State.refreshLines_devEnables (s : State) : s.refreshLines.devEnables = s.devEnables := by
  unfold State.refreshLines; split <;> rfl
@[simp] theorem State.refreshLines_devRepeated (s : State) : s.refreshLines.devRepeated = s.devRepeated := by
  unfold State.refreshLines; split <;> rfl
@[simp] theorem State.refreshLines_port (s : State) : s.refreshLines.port = s.port := by
  unfold State.refreshLines; split <;> rfl
@[simp] theorem State.seg_refreshLines (s : State) (x : SegId) : s.refreshLines.seg x = s.seg x := by simp [State.seg]
@[simp] theorem State.link_refreshLines (s : State) (i : LinkId) : s.refreshLines.link i = s.link i := by simp [State.link]
@[simp] theorem State.bridge_refreshLines (s : State) (b : BridgeId) : s.refreshLines.bridge b = s.bridge b := by
  simp [State.bridge]
@[simp] theorem State.running_refreshLines (s : State) : s.refreshLines.running = s.running := by simp [State.running]
@[simp] theorem State.records_refreshLines (s : State) : s.refreshLines.records = s.records := by
  unfold State.refreshLines State.records; split <;> rfl
@[simp] theorem State.records_raiseChipSelect (s : State) : s.raiseChipSelect.records = s.records := rfl

/-- What the refresh of the lines leaves in a running part (R140, R150, R151). -/
theorem State.refreshLines_lines (s : State) (h : s.running = true) :
    s.refreshLines.faultLine = s.faultCondition ∧
    s.refreshLines.alert = if s.port.frameOpen then s.alert else s.alertCondition := by
  simp [State.refreshLines, h]

end Sys2Proof.Machine
end

