-- ==== Sys2Proof/Laws/Alarms.lean ====
section
/-! SUPPORT. What raises, alarm changes, verdicts and answers leave of a segment record, and the bridge commands of a
bridge record. -/

namespace Sys2Proof.Machine

theorem Segment.Kept.refl (g : Segment) : g.Kept g := rfl

theorem Segment.Kept.trans {g h k : Segment} (a : g.Kept h) (b : h.Kept k) : g.Kept k := by
  unfold Segment.Kept at *; rw [b, a]

theorem Segment.KeptButAlarm.refl (g : Segment) : g.KeptButAlarm g := rfl

theorem Segment.KeptButAlarm.trans {g h k : Segment} (a : g.KeptButAlarm h) (b : h.KeptButAlarm k) :
    g.KeptButAlarm k := by
  unfold Segment.KeptButAlarm at *; rw [b, a]

theorem Segment.KeptButAlarm.kept {g h : Segment} (a : g.KeptButAlarm h) : g.Kept h := by
  unfold Segment.KeptButAlarm at a; unfold Segment.Kept; rw [a]

theorem Bridge.Kept.refl (b : Bridge) : b.Kept b := rfl

theorem Bridge.Kept.trans {a b c : Bridge} (h : a.Kept b) (k : b.Kept c) : a.Kept c := by
  unfold Bridge.Kept at *; rw [k, h]

/-! ## Segments -/

theorem Segment.raise_kept (g : Segment) (k : SegNotice) : g.KeptButAlarm (g.raise k) := rfl

@[simp] theorem Segment.raise_alarm (g : Segment) (k : SegNotice) : (g.raise k).alarm = g.alarm := rfl

theorem Segment.foldl_raise_kept (ks : List SegNotice) (g : Segment) : g.KeptButAlarm (ks.foldl Segment.raise g) := by
  induction ks generalizing g with
  | nil => rfl
  | cons k ks ih => exact (g.raise_kept k).trans (ih _)

theorem Segment.foldl_raise_alarm (ks : List SegNotice) (g : Segment) : (ks.foldl Segment.raise g).alarm = g.alarm := by
  induction ks generalizing g with
  | nil => rfl
  | cons k ks ih => exact (ih _).trans (g.raise_alarm k)

/-- A change of alarm writes the alarm and the notices, nothing else (R127, R132). -/
theorem Segment.setAlarm_kept (g : Segment) (a : Alarm) : g.KeptButAlarm (g.setAlarm a) := by
  have h : g.KeptButAlarm { g with alarm := a } := rfl
  exact h.trans (Segment.foldl_raise_kept _ _)

@[simp] theorem Segment.setAlarm_alarm (g : Segment) (a : Alarm) : (g.setAlarm a).alarm = a :=
  Segment.foldl_raise_alarm _ _

/-- A change to the held alarm changes nothing (R127). -/
theorem Segment.setAlarm_same (g : Segment) : g.setAlarm g.alarm = g := by
  cases g with
  | mk => rename_i a _ _ _ _ _ _ _; cases a <;> rfl

/-- An evaluation writes the alarm and the notices, nothing else. -/
theorem Segment.evaluate_kept (g : Segment) : g.KeptButAlarm g.evaluate := by
  unfold Segment.evaluate; split
  · exact g.setAlarm_kept _
  · exact .refl g

/-- What an evaluation leaves as the alarm (R127, R128, R129, R133). -/
theorem Segment.evaluate_alarm (g : Segment) :
    g.evaluate.alarm = if g.evaluable && !g.latched then g.tableAlarm else g.alarm := by
  unfold Segment.evaluate; split <;> simp

/-- The application of a verdict writes the alarm and the notices, nothing else. -/
theorem Segment.applyVerdict_kept (g : Segment) (v : Verdict) : g.KeptButAlarm (g.applyVerdict v) := by
  cases v with
  | fault => exact g.setAlarm_kept _
  | ok => simp only [Segment.applyVerdict]; split
          · exact .refl g
          · exact g.setAlarm_kept _

/-- The alarm a verdict leaves (R137): never WARN. -/
theorem Segment.applyVerdict_alarm (g : Segment) (v : Verdict) :
    (g.applyVerdict v).alarm = match v with
      | .fault => .fault
      | .ok => if g.latched then .fault else .clear := by
  cases v with
  | fault => simp [Segment.applyVerdict]
  | ok =>
    simp only [Segment.applyVerdict]; split
    · rename_i h; simp [Segment.latched] at h; exact h.2
    · simp

/-- The answer of a spot writes the spot fields and the notices, nothing else (R95). -/
theorem Segment.answerSpot_kept (g : Segment) (o : CycleOutcome) : g.Kept (g.answerSpot o) := rfl

/-- Settling in a net writes only what a recompute may write. -/
theorem Segment.settleIn_kept (g : Segment) (st : NetState) (v : Verdict) : g.Kept (g.settleIn st v) := by
  have hf : ∀ e : Bool, g.Kept { g with ext := e } := fun _ => rfl
  unfold Segment.settleIn
  cases st <;> simp only
  case external =>
    refine Segment.Kept.trans ?_ (Segment.applyVerdict_kept _ v).kept
    split
    · exact (hf _).trans (Segment.answerSpot_kept _ _)
    · exact hf _
  case unmeasurable =>
    split
    · exact (hf _).trans (Segment.answerSpot_kept _ _)
    · exact hf _
  all_goals exact hf _

/-! ## Bridges -/

theorem Bridge.openSwitches_kept (b : Bridge) (now : Uptime) : b.Kept (b.openSwitches now) := by
  unfold Bridge.openSwitches; split <;> rfl

theorem Bridge.closeP_kept (b : Bridge) (now : Uptime) : b.Kept (b.closeP now) := by
  unfold Bridge.closeP; split <;> rfl

theorem Bridge.cross_kept (b : Bridge) (now : Uptime) : b.Kept (b.cross now) := by
  unfold Bridge.cross; split <;> rfl

end Sys2Proof.Machine
end

