-- ==== Sys2Proof/Laws/Nets.lean ====
section
/-! SUPPORT. What the net resolver can do to the state: a grant, a release, an answer and the whole recompute write the
nets, the switch sequences of bridges, and of segments only what `Segment.Kept` leaves open. -/

namespace Sys2Proof.Machine

/-! ## The relation -/

/-- `t` is `s` after work of the net resolver. -/
structure Resolves (s t : State) : Prop where
  tables : t.tables = s.tables
  port : t.port = s.port
  alert : t.alert = s.alert
  faultLine : t.faultLine = s.faultLine
  segs : SegsKept Segment.Kept s t
  bridges : ∀ b, (s.bridge b).Kept (t.bridge b)

theorem SegsKept.refl {r : Segment → Segment → Prop} (h : ∀ g, r g g) (s : State) : SegsKept r s s := by
  intro x; cases s.seg x <;> simp [h]

theorem SegsKept.trans {r : Segment → Segment → Prop} (h : ∀ a b c, r a b → r b c → r a c) {s t u : State}
    (p : SegsKept r s t) (q : SegsKept r t u) : SegsKept r s u := by
  intro x
  have px := p x
  have qx := q x
  revert px qx
  cases s.seg x <;> cases t.seg x <;> cases u.seg x <;> simp
  exact h _ _ _

theorem SegsKept.mapSegs {r : Segment → Segment → Prop} (s : State) (f : SegId → Segment → Segment)
    (h : ∀ x g, r g (f x g)) : SegsKept r s (s.mapSegs f) := by
  intro x; rw [State.seg_mapSegs]; cases s.seg x <;> simp [h]

theorem SegsKept.of_seg_eq {r : Segment → Segment → Prop} (h : ∀ g, r g g) {s t : State}
    (e : ∀ x, t.seg x = s.seg x) : SegsKept r s t := by
  intro x; rw [e x]; cases s.seg x <;> simp [h]

theorem Resolves.refl (s : State) : Resolves s s :=
  ⟨rfl, rfl, rfl, rfl, SegsKept.refl (r := Segment.Kept) Segment.Kept.refl s, fun b => Bridge.Kept.refl (s.bridge b)⟩

theorem Resolves.trans {s t u : State} (p : Resolves s t) (q : Resolves t u) : Resolves s u :=
  ⟨q.tables.trans p.tables, q.port.trans p.port, q.alert.trans p.alert, q.faultLine.trans p.faultLine,
    SegsKept.trans (r := Segment.Kept) (fun _ _ _ => Segment.Kept.trans) p.segs q.segs, fun b => (p.bridges b).trans (q.bridges b)⟩

theorem Resolves.foldl {α : Type} (f : State → α → State) (h : ∀ s a, Resolves s (f s a)) (as : List α) (s : State) :
    Resolves s (as.foldl f s) := by
  induction as generalizing s with
  | nil => exact .refl s
  | cons a as ih => exact (h s a).trans (ih _)

/-! ## The operations -/

theorem tables_mapSegs (s : State) (f : SegId → Segment → Segment) : (s.mapSegs f).tables = s.tables := rfl

theorem bridges_mapSegs (s : State) (f : SegId → Segment → Segment) (b : BridgeId) :
    (s.bridge b).Kept ((s.mapSegs f).bridge b) := Bridge.Kept.refl (s.bridge b)

theorem segs_mapSegs (s : State) (f : SegId → Segment → Segment)
    (h : ∀ (x : SegId) (g : Segment), g.Kept (f x g)) : SegsKept Segment.Kept s (s.mapSegs f) :=
  SegsKept.mapSegs (r := Segment.Kept) s f h

theorem resolves_mapSegs (s : State) (f : SegId → Segment → Segment)
    (h : ∀ (x : SegId) (g : Segment), g.Kept (f x g)) : Resolves s (s.mapSegs f) :=
  Resolves.mk (tables_mapSegs s f) rfl rfl rfl (segs_mapSegs s f h) (bridges_mapSegs s f)

theorem resolves_modNet (s : State) (a : SegId) (f : Net → Net) : Resolves s (s.modNet a f) :=
  ⟨rfl, rfl, rfl, rfl, SegsKept.of_seg_eq (r := Segment.Kept) Segment.Kept.refl fun _ => rfl, fun b => Bridge.Kept.refl (s.bridge b)⟩

theorem resolves_nets (s : State) (ns : List Net) : Resolves s { s with nets := ns } :=
  ⟨rfl, rfl, rfl, rfl, SegsKept.of_seg_eq (r := Segment.Kept) Segment.Kept.refl fun _ => rfl, fun b => Bridge.Kept.refl (s.bridge b)⟩

theorem resolves_modBridge (s : State) (b : BridgeId) (f : Bridge → Bridge) (h : ∀ r, Bridge.Kept r (f r)) :
    Resolves s (s.modBridge b f) := by
  refine ⟨rfl, rfl, rfl, rfl, SegsKept.of_seg_eq (r := Segment.Kept) Segment.Kept.refl fun _ => rfl, fun c => ?_⟩
  rw [State.bridge_modBridge]; split
  · subst b; exact h _
  · exact .refl _

theorem resolves_release (s : State) (g : Option BridgeId) : Resolves s (s.release g) := by
  cases g with
  | none => exact .refl s
  | some b => exact resolves_modBridge s b _ fun r => r.openSwitches_kept _

theorem resolves_answerSpots (s : State) (xs : List SegId) (o : CycleOutcome) : Resolves s (s.answerSpots xs o) := by
  refine resolves_mapSegs s _ fun x g => ?_
  split
  · exact g.answerSpot_kept o
  · exact .refl g

theorem resolves_raiseNetChange (s : State) (ds : List Derived) : Resolves s (s.raiseNetChange ds) := by
  refine resolves_mapSegs s _ fun x g => ?_
  split
  · exact (g.raise_kept _).kept
  · exact .refl g

theorem resolves_settleSegments (s : State) : Resolves s s.settleSegments := by
  refine resolves_mapSegs s _ fun x g => ?_
  split
  · exact g.settleIn_kept _ _
  · exact .refl g

theorem resolves_startCycle (s : State) (a : SegId) : Resolves s (s.startCycle a) := by
  unfold State.startCycle
  split
  · exact .refl s
  · split
    · exact (resolves_modNet s a _).trans (resolves_modBridge _ _ _ fun r => r.closeP_kept _)
    · exact resolves_modNet s a _

theorem resolves_testWaiting (s : State) (a : SegId) : Resolves s (s.testWaiting a) := by
  unfold State.testWaiting
  split
  · exact .refl s
  · split
    · exact resolves_startCycle s a
    · exact .refl s

theorem resolves_releaseAll (s : State) (gs : List (Option BridgeId)) : Resolves s (s.releaseAll gs) :=
  Resolves.foldl _ resolves_release gs s

theorem resolves_answerFaults (s : State) (ds : List Derived) : Resolves s (s.answerFaults ds) := by
  unfold State.answerFaults
  refine Resolves.foldl (fun (t : State) (d : Derived) => t.answerSpots d.faultSpots .bridgeFault) ?_ ds s
  intro t d
  exact resolves_answerSpots t d.faultSpots .bridgeFault

theorem resolves_replaceNets (s : State) : Resolves s s.replaceNets :=
  (resolves_nets s _).trans ((resolves_releaseAll _ _).trans ((resolves_releaseAll _ _).trans
    ((resolves_answerFaults _ _).trans (resolves_raiseNetChange _ _))))

/-- Everything a recompute can do to a state (R42 to R47): beside the nets it writes only what `Resolves` leaves open. -/
theorem resolves_recompute (s : State) : Resolves s s.recompute := by
  unfold State.recompute
  exact (resolves_replaceNets s).trans ((resolves_settleSegments _).trans
    (Resolves.foldl _ resolves_testWaiting _ _))

theorem resolves_endRelease (s : State) (a : SegId) : Resolves s (s.endRelease a) := by
  have h := resolves_modNet s a fun n =>
    { n.idle with supervision := n.supervision, state := .rest,
                  spacing := some { start := s.uptime, length := s.timing.spacing } }
  unfold State.endRelease
  split
  · exact h
  · dsimp only; split
    · exact h.trans (resolves_startCycle _ _)
    · exact h

theorem resolves_reportParked (s : State) (b : BridgeId) : Resolves s (s.reportParked b) := by
  unfold State.reportParked
  split
  · exact .refl s
  · split
    · exact resolves_endRelease _ _
    · exact resolves_testWaiting _ _

/-! ## Fields -/

/-- The fields of `State.tables` one by one. -/
theorem Resolves.fields {s t : State} (h : Resolves s t) :
    t.pending = s.pending ∧ t.supplyValid = s.supplyValid ∧ t.resetHigh = s.resetHigh ∧ t.uptime = s.uptime ∧
    t.links = s.links ∧ t.aux = s.aux ∧ t.ext = s.ext ∧ t.timing = s.timing ∧ t.devPending = s.devPending ∧
    t.devEnables = s.devEnables ∧ t.devRepeated = s.devRepeated := by
  have e := h.tables
  simp only [State.tables, State.records, State.mk.injEq] at e
  simp only [e, and_self]

theorem Resolves.running {s t : State} (h : Resolves s t) : t.running = s.running := by
  have e := h.fields
  simp [State.running, e]

end Sys2Proof.Machine
end

