-- ==== Sys2Proof/Laws/Ops.lean ====
section
/-! SUPPORT. What the shared operations of the port can do: a rise of CS_N over an open frame, an event, a stop. -/

namespace Sys2Proof.Machine

/-- An event that is taken: the effect, and the output lines behind it. -/
theorem State.event_due (s : State) (f : State → State) (d : Bool) (hr : s.running = true) (hd : d = true) :
    s.event d f = (f s).refreshLines := by simp [State.event, hr, hd]

/-- An event that is not due, or comes in a reset, does not happen. -/
theorem State.event_not_due (s : State) (f : State → State) (d : Bool) (h : s.running = false ∨ d = false) :
    s.event d f = s := by
  unfold State.event; rcases h with h | h <;> simp [h]

/-- What the close of a frame leaves: every record, and a port with CS_N HIGH, no frame and the new slot (R155, R160). -/
theorem State.closeFrame_port (s : State) (c : Byte) (r : Reply) (buf sent : List Byte) :
    (s.closeFrame c r buf sent).port =
      { s.port with csHigh := true, frameOpen := false, received := buf, summary := none, sdo := none, shiftedOut := sent,
                    slot := { status := r.status, code := c, payload := r.payload } } := by
  simp [State.closeFrame]

@[simp] theorem State.closeFrame_records (s : State) (c : Byte) (r : Reply) (buf sent : List Byte) :
    (s.closeFrame c r buf sent).records = s.records := by
  unfold State.closeFrame; rw [State.records_refreshLines]; rfl

/-- A rise over an open frame that is long enough: the body runs on the stored bytes, and the frame closes on its reply
(R159, step 4). -/
theorem State.riseWith_executes (s : State) (c : Byte) (n : Nat) (f : Clocked)
    (body : List Byte → State → Reply × State) (hr : s.running = true) (ho : s.port.frameOpen = true)
    (hn : n ≤ (storedBytes c f).length) :
    s.riseWith c n f body =
      (body (storedBytes c f) s).2.closeFrame c (body (storedBytes c f) s).1 (storedBytes c f)
        (s.port.shifted (f.bytes.length + 1) f.early) := by
  simp [State.riseWith, hr, ho, Nat.not_lt.mpr hn]

/-- A rise over an open frame that is too short (R159, step 3). -/
theorem State.riseWith_short (s : State) (c : Byte) (n : Nat) (f : Clocked)
    (body : List Byte → State → Reply × State) (hr : s.running = true) (ho : s.port.frameOpen = true)
    (hn : (storedBytes c f).length < n) :
    s.riseWith c n f body = s.closeFrame c (Reply.plain .shortFrame) (storedBytes c f)
      (s.port.shifted (f.bytes.length + 1) f.early) := by
  simp [State.riseWith, hr, ho, hn]

/-- The frame length: the complete bytes received, counted up to 64 (R156). -/
theorem storedBytes_length (c : Byte) (f : Clocked) : (storedBytes c f).length = min 64 (f.bytes.length + 1) := by
  simp [storedBytes, Config.bufferBytes]; omega

/-- Byte `k` that a host reads is byte `k` of the output, 0x00 behind its end (R157). -/
theorem Port.stream_eq (p : Port) (n : Nat) :
    p.stream n = (List.range n).map fun k => p.outBytes.getD k 0#8 := by
  apply List.ext_getElem
  · simp [Port.stream]
  · intro k h _
    have hk : k < n := by simp [Port.stream] at h; omega
    simp only [Port.stream, List.getElem_take, List.getElem_map, List.getElem_range, List.getElem_append,
      List.getElem_replicate, List.getD_eq_getElem?_getD]
    split <;> simp_all

/-- With a clock that idles high, byte `k` that a host reads is the low seven bits of byte `k` of the output before the
high bit of the next (R155). -/
theorem Port.shifted_early (p : Port) (n : Nat) :
    p.shifted n true =
      (List.range n).map fun k => p.outBytes.getD k 0#8 <<< 1 ||| p.outBytes.getD (k + 1) 0#8 >>> 7 := by
  simp only [Port.shifted, if_true, oneBitAhead, Port.stream_eq]
  apply List.ext_getElem
  · simp
  · intro k h _; simp

/-- The part is not running after a stop by either reset cause (R169). -/
theorem State.running_stop (s : State) (h : s.running = false) : s.stop.running = false := h

end Sys2Proof.Machine
end

