-- ==== Sys2Proof/Tests/Slice0.lean ====
section
/-! SUPPORT. The model's own tests: the WellFormed smoke tests, frames written out from the command table, the worked
examples of the manual, one step of the commands on small states, and a witness for the hypotheses of every statement. -/

namespace Sys2Proof.Tests

open Sys2Proof Sys2Proof.Machine

/-! ## Helpers -/

/-- A frame's bytes after the code, no bit left over. -/
def fr (bytes : List Byte) : Clocked := ⟨bytes, [], false⟩

/-- The state with an open frame. -/
def opened (s : State) : State :=
  { s with port := { s.port with csHigh := false, frameOpen := true, summary := some 0x20#8 } }

/-- The state a result answers. -/
def after : Result → State
  | .next t => t
  | .fault _ | .refused _ => State.reset

/-- The status of the slot a result leaves. -/
def statusOf (r : Result) : Status := (after r).port.slot.status

/-- A segment of 800 V, 100 and 500 Ω/V, 60 s, both options. -/
def seg800 : Segment := Segment.define ⟨800, 100, 500, 60⟩ .own true true 0#32

/-- An OWN net of segment 0 with bridge 0, at rest. -/
def net0 : Net :=
  { Net.blank 0 [0] [0] with supervision := .own, state := .rest, spacing := some { start := 0#32, length := 1000 } }

/-- Segment 0 with bridge 0 attached, its net at rest. -/
def resting : State :=
  ({ State.reset with nets := [net0] }.setSeg 0 (some { seg800 with bridge := some 0 })).modBridge 0 fun r =>
    { r with attached := some 0 }

/-- The same with another state of the net and of bridge 0. -/
def netBridge (n : Net) (r : Bridge) : State :=
  ({ State.reset with nets := [n] }.setSeg 0 (some { seg800 with bridge := some 0 })).modBridge 0 fun _ =>
    { r with attached := some 0 }

/-- The net in a phase, its switch confirmed at uptime 0. -/
def phaseNet (st : NetState) (w : List Sample) : Net :=
  { net0 with state := st, spacing := none, grant := some 0, lastGranted := some 0, cycleStart := some 0#32,
              phaseP := if st = .phaseN then some { up := 2000, un := 6000, overRange := false, unsettled := false }
                else none,
              confirmation := some { time := 0#32, minDwell := 200, maxDwell := 6000, epsilon := 6 }, window := w }

/-- Eight equal samples. -/
def flatWindow (up un : Nat) (n : Nat) : List Sample := List.replicate n { up := up, un := un, overRange := false }

theorem ready {s : State} (h : s.Running) : (opened s).Ready := ⟨h, rfl⟩

theorem reset_running : State.reset.Running := ⟨rfl, rfl⟩

/-! ## WellFormed: an ill-formed term for each check -/

theorem test_wf_refuses_a_whole_byte_of_tail :
    (Instr.noOperation ⟨[0x00#8], List.replicate 8 true, false⟩).wf = false := by decide

theorem test_wf_takes_seven_bits_of_tail : (Instr.noOperation ⟨[0x00#8], List.replicate 7 true, false⟩).wf = true := by decide

theorem test_wf_refuses_a_listed_code_as_unknown : (Instr.unknownCommand (some 0x11#8) (fr [0x00#8])).wf = false := by
  decide

theorem test_wf_refuses_bytes_after_no_code : (Instr.unknownCommand none (fr [0x00#8])).wf = false := by decide

theorem test_wf_takes_an_unlisted_code : (Instr.unknownCommand (some 0x01#8) (fr [])).wf = true := by decide

/-! ## Frames, from the command table of R171 -/

theorem test_frame_read_segment : decodeFrame [0x11#8, 0x05#8] [] false ⟨0#12, 0#2⟩ = .readSegment (fr [0x05#8]) := by decide

theorem test_frame_define_link :
    decodeFrame [0x30#8, 0x07#8, 0x00#8, 0x08#8, 0x02#8, 0x07#8, 0x00#8, 0x00#8] [] false ⟨0#12, 0#2⟩ =
      .defineLink (fr [0x07#8, 0x00#8, 0x08#8, 0x02#8, 0x07#8, 0x00#8, 0x00#8]) := by decide

theorem test_frame_attach_bridge : decodeFrame [0x38#8, 0x01#8, 0x04#8] [] false ⟨0#12, 0#2⟩ = .attachBridge (fr [1#8, 4#8]) := by
  decide

theorem test_frame_restart : decodeFrame [0x5A#8, 0x00#8] [] false ⟨3#12, 1#2⟩ = .restart (fr [0x00#8]) ⟨3#12, 1#2⟩ := by decide

theorem test_frame_unlisted_code : decodeFrame [0x17#8, 0x00#8] [] false ⟨0#12, 0#2⟩ = .unknownCommand (some 0x17#8) (fr [0#8]) := by
  decide

theorem test_frame_without_a_byte :
    decodeFrame [] [true, false] false ⟨0#12, 0#2⟩ = .unknownCommand none ⟨[], [true, false], false⟩ := by decide

/-! ## Worked examples of the manual -/

/-- Section 4.4, "Conversion cases". -/
theorem test_conversion_cases :
    convert 32000 65536 = 8000 ∧ convert 40000 66847 = 10200 ∧ convertRaw 58200 72090 = 16005 ∧
    convert 58200 72090 = 16000 ∧ convert 65535 58982 = 14745 ∧ convert 0 58982 = 0 ∧
    channelOverRange 58200 72090 = true ∧ channelOverRange 65535 58982 = true ∧
    channelOverRange 40000 66847 = false := by decide

/-- R100, the table. -/
theorem test_reference_conductances :
    referenceConductance 5000 = 20000000 ∧ referenceConductance 20480 = 4882813 ∧
    referenceConductance 30000 = 3333333 ∧ referenceConductance 50000 = 2000000 := by decide

/-- R109, the table. -/
theorem test_resistances :
    resistance 0 = 100000 ∧ resistance 10000 = 100000 ∧ resistance 10001 = 99990 ∧ resistance 128000 = 7813 ∧
    resistance 851064 = 1175 ∧ resistance 2659574 = 376 ∧ resistance 100000000 = 10 := by decide

/-- R111, the table. -/
theorem test_thresholds :
    thresholdsOf 800 100 500 = { faultOn := 12500000, faultOff := 10937500, warnOn := 2500000, warnOff := 2187500 } ∧
    thresholdsOf 1500 50 5000 = { faultOn := 13333333, faultOff := 11666667, warnOn := 133333, warnOff := 116667 } ∧
    (thresholdsOf 100 50 50).faultOn = 100000000 ∧ (thresholdsOf 100 50 50).faultOff = 87500000 := by decide

/-- Section 1.3, "Example: clamping and thresholds". -/
theorem test_clamps_of_a_definition :
    (Declared.mk 1600 40 30 0).clamp = { vMax := 1500, faultFactor := 50, warnFactor := 50, validity := 1 } := by decide

/-- The references of section 6.7. -/
def refs : References := { grP := 5000000, grN := 5000000 }

/-- A phase with clear flags. -/
def ph (up un : Nat) : PhaseValues := { up := up, un := un, overRange := false, unsettled := false }

/-- Cases A, B and E of section 6.7. -/
theorem test_calculation_results :
    ((calculate refs 500 (ph 2000 6000) (ph 7000 1000)).gp, (calculate refs 500 (ph 2000 6000) (ph 7000 1000)).gn) =
      (some 1000000, some 2000000) ∧
    ((calculate refs 500 (ph 2500 5500) (ph 7200 800)).gp, (calculate refs 500 (ph 2500 5500) (ph 7200 800)).gn) =
      (some 851064, some 2659574) ∧
    calculate refs 500 (ph 7760 240) (ph 7961 39) =
      { outcome := .degraded, s1 := some 8000, s2 := some 8000, gp := some 970149, gn := some 100000000 } := by decide

/-- Cases C, D, F and G of section 6.7. -/
theorem test_calculation_discards :
    (calculate refs 500 (ph 2000 6000) (ph 6200 800)).outcome ≠ .unsteady ∧
    calculate refs 500 (ph 2000 6000) (ph 6190 800) =
      { outcome := .unsteady, s1 := some 8000, s2 := some 6990, gp := none, gn := none } ∧
    calculate refs 500 (ph 180 250) (ph 210 220) =
      { outcome := .lowVoltage, s1 := some 430, s2 := some 430, gp := none, gn := none } ∧
    (calculate refs 400 (ph 180 250) (ph 210 220)).outcome = .valid ∧
    (calculate refs 500 (ph 4100 3900) (ph 4000 4000)).outcome = .indeterminate ∧
    calculate refs 500 { ph 2000 6000 with overRange := true } (ph 100 150) =
      { outcome := .overRange, s1 := none, s2 := none, gp := none, gn := none } := by decide

/-- Section 10.6, the status codes and some encodings. -/
theorem test_codes :
    Status.shortFrame.code = 0x11#8 ∧ Status.linked.code = 0x15#8 ∧ Status.external.code = 0x1A#8 ∧
    Status.badValue.code = 0x1E#8 ∧ Quality.direct.code = 3 ∧ CycleOutcome.bridgeFault.code = 7 ∧
    NetState.release.code = 6 ∧ Reason.allFaulted.code = 3 ∧ BridgeState.opening.code = 4 ∧
    FaultCause.stuck.code = 4 ∧ (Alarm.fault).code = 2 := by decide

/-- Section 1.5, "Example: ageing across a wrap of the uptime". -/
theorem test_expiry_across_the_wrap :
    expiryAfter 4294960000#32 20 = 12704#32 ∧ elapsed 5000#32 4294960000#32 = 12296 ∧
    ({ seg800 with attrTime := 4294960000#32, expiry := some 12704#32 } : Segment).expiryReached 12703#32 = false ∧
    ({ seg800 with attrTime := 4294960000#32, expiry := some 12704#32 } : Segment).expiryReached 12704#32 = true := by
  decide

/-- Section 7.5, "Example: subtraction on a two-segment net", and "Example: confirmation, then inconsistency". -/
def twoSegs : State :=
  ({ State.reset with uptime := 600000#32 }.setSeg 0
    (some { seg800 with quality := .direct, gp := 800000, gn := 700000 })).setSeg 3
    (some { seg800 with quality := .shared, gp := 1150000, gn := 860000 })

theorem test_attribution_derived :
    ((twoSegs.attribute [0, 3] false 1200000 900000).seg 3).map (fun g => (g.quality, g.gp, g.gn, g.lowMark)) =
      some (.derived, 400000, 200000, some 2500) ∧
    (twoSegs.attribute [0, 3] false 1200000 900000).seg 0 = twoSegs.seg 0 := by decide

theorem test_attribution_inconsistent :
    (((twoSegs.attribute [0, 3] false 1200000 900000).attribute [0, 3] false 2000000 910000).seg 0).map
      (fun g => (g.quality, g.gp, g.gn, g.hasPending .inconsistent)) = some (.shared, 2000000, 910000, true) := by decide

/-! ## One step of a command -/

theorem test_fall_captures_restarted : (after (execChipSelectFall State.reset)).port.summary = some 0x20#8 := by decide

theorem test_short_frame : statusOf (exec (.readSegment (fr [])) (opened State.reset)) = .shortFrame := by decide

theorem test_no_operation_shifts_out_nothing :
    (after (exec (.noOperation (fr [0#8, 0#8])) (opened State.reset))).port.shiftedOut = [0x20#8, 0x02#8, 0x00#8] := by
  decide

/-- R155: the bits 00100000 00000010 11111111 0..., read from the second one on in bytes of eight. -/
theorem test_clock_that_idles_high_reads_one_bit_ahead :
    (after (exec (.noOperation ⟨[0#8, 0#8], [], true⟩)
      (opened { State.reset with port := { Port.reset with slot := { Slot.reset with code := 0xFF#8 } } }))).port.shiftedOut =
      [0x40#8, 0x05#8, 0xFE#8] := by decide

theorem test_unknown_command_refused_term :
    exec (.unknownCommand (some 0x10#8) (fr [])) State.reset = .refused .notAnUnknownCommand := by rfl

/-- The example of section 10.6, frame A. -/
theorem test_set_timing_clamps :
    (after (exec (.setTiming (fr [0#8, 0#8, 30#8, 0#8, 100#8, 0#8, 6#8, 3#8, 232#8, 1#8, 44#8, 0#8, 10#8, 0#8, 200#8,
      1#8, 244#8])) (opened State.reset))).timing =
      { minDwell := 50, maxDwell := 150, epsilon := 6, spacing := 1000, quiet := 300, debounce := 10, agreement := 200,
        lowVoltage := 500 } := by decide

theorem test_read_notices_device :
    (after (exec (.readNotices (fr [0xFE#8])) (opened State.reset))).port.slot.payload = [0x01#8, 0x00#8, 0x0F#8] ∧
    (after (exec (.readNotices (fr [0xFE#8])) (opened State.reset))).alert = false := by decide

theorem test_define_segment_stands_alone :
    ((after (exec (.defineSegment (fr [5#8, 6#8, 64#8, 0#8, 40#8, 0#8, 30#8, 0#8, 0#8, 0#8, 1#8])) (opened
      State.reset))).nets.map fun n => (n.anchor, n.members, n.state, n.reason)) =
      [(5, [5], .unmeasurable, some .noBridge)] := by decide +kernel

theorem test_retire_segment_bad_target : statusOf (exec (.retireSegment (fr [0xFF#8])) (opened State.reset)) = .badTarget := by
  decide

theorem test_attach_bridge_enters_quiet :
    ((after (exec (.attachBridge (fr [0#8, 0#8])) (opened ({ State.reset with
      nets := [(Net.blank 0 [0] []).enterUnmeasurable (some .noBridge)] }.setSeg 0 (some seg800))))).nets.map
        fun n => (n.state, n.bridges)) = [(.quiet, [0])] := by decide +kernel

theorem test_define_link_same_ends :
    statusOf (exec (.defineLink (fr [0#8, 0#8, 0#8, 0#8, 0#8, 0#8, 0#8])) (opened resting)) = .sameEnds := by decide

theorem test_spot_check_starts_the_cycle :
    ((after (exec (.spotCheck (fr [0#8])) (opened resting))).nets.map fun n => (n.state, n.grant, n.covered)) =
      [(.phaseP, some 0, [0])] := by decide

theorem test_spacing_starts_the_cycle :
    ((after (exec (.spacingExpiry 0) { resting with uptime := 1000#32 })).bridge 0).drvP = true := by decide

theorem test_close_confirmation_dwells :
    ((after (exec (.closeConfirmation 0) (netBridge { phaseNet .phaseP [] with confirmation := none }
      { Bridge.reset with state := .closing, drvP := true, snsP := true, sampled := true }))).bridge 0).state = .dwell := by
  decide

theorem test_settling_sample_ends_phase_p :
    ((after (exec (.sampleEvent 0 8000#16 24000#16) (netBridge (phaseNet .phaseP (flatWindow 2000 6000 7))
      { Bridge.reset with state := .settling, drvP := true }))).nets.map fun n => (n.state, n.phaseP)) =
      [(.phaseN, some { up := 2000, un := 6000, overRange := false, unsettled := false })] := by decide

theorem test_settling_sample_completes :
    (((after (exec (.sampleEvent 0 28000#16 4000#16) (netBridge (phaseNet .phaseN (flatWindow 7000 1000 7))
      { Bridge.reset with state := .settling, phase := .n, drvN := true }))).seg 0).map
        fun g => (g.quality, g.gp, g.gn, g.alarm)) = some (.direct, 1000000, 2000000, .clear) := by decide

theorem test_open_timeout_faults :
    ((after (exec (.openTimeout 0) (netBridge (phaseNet .release []) { Bridge.reset with state := .opening, timeout := 20
      }))).nets.map fun n => (n.state, n.reason)) = [(.unmeasurable, some .allFaulted)] := by decide +kernel

theorem test_tenth_sample_is_due :
    (Filter.sample { level := false, run := 8, due := false } true 10).due = false ∧
    (Filter.sample { level := false, run := 9, due := false } true 10).due = true := by decide

theorem test_pin_reset_releases_the_drives :
    ((after (exec .pinReset (netBridge (phaseNet .phaseP []) { Bridge.reset with state := .closing, drvP := true }))).bridge
      0).drvP = false := by decide

theorem test_trim_out_of_range_faults :
    ((after (exec (.powerOnReset ⟨0#12, 0#2⟩) (State.reset.modBridge 2 fun r =>
      { r with trim := { Trim.nominal with gainP := 72091#17 } }))).bridge 2).cause = some .trim := by decide

/-! ## Witnesses: the hypotheses of every statement hold together -/

theorem witness_StepRunsFrontCommand :
    ({ State.reset with pending := [.chipSelectFall, .pinReset] } : State).pending = .chipSelectFall :: [.pinReset] ∧
    State.reset.pending = [] := ⟨rfl, rfl⟩

theorem witness_EveryCommandAnswers :
    (Instr.expiry 15).wf = true ∧
    (Instr.unknownCommand (some 0x5A#8) (fr []) = .unknownCommand (some 0x5A#8) (fr []) ∧
      unknownFrame (some 0x5A#8) (fr []) = false) := by decide

theorem witness_ChipSelectFallOpensFrame :
    (State.reset.port.csHigh = true ∧ State.reset.Running) ∧
    (State.reset.port.csHigh = true ∧ ¬ ({ State.reset with resetHigh := false } : State).Running) ∧
    (opened State.reset).port.csHigh = false ∧
    (resting.setSeg 15 (some { seg800 with alarm := .fault })).seg 15 = some { seg800 with alarm := .fault } :=
  ⟨⟨rfl, rfl, rfl⟩, ⟨rfl, fun h => Bool.noConfusion h.2⟩, rfl, rfl⟩

/-- An open frame in which the values of segment 0 expire, and nothing was pending before. -/
def expiring : State :=
  opened { resting.setSeg 0 (some { seg800 with quality := .direct, bridge := some 0, expiry := some 0#32 }) with
    devPending := 0#4, alert := false }

theorem witness_OpenFrameFreezesPortAndAlert :
    expiring.Ready ∧ expiring.port.csHigh = false ∧
    ∃ t, exec (.expiry 0) expiring = .next t ∧ t.port.frameOpen = true ∧ t.records ≠ expiring.records ∧
      t.alertCondition = true :=
  ⟨ready ⟨rfl, rfl⟩, rfl, _, rfl, rfl, by decide, by decide⟩

theorem witness_RisesThatExecuteNothing :
    (opened State.reset).Ready ∧ ¬ State.reset.Ready ∧
    (frameOf (.unknownCommand none (fr [])) = some ([], [], false) ∧ (Instr.unknownCommand none (fr [])).wf = true) ∧
    (frameOf (.unknownCommand (some 0xFF#8) (fr [])) = some ([0xFF#8], [], false) ∧ commandLength 0xFF#8 = none ∧
      (Instr.unknownCommand (some 0xFF#8) (fr [])).wf = true) ∧
    (frameOf (.setTiming (fr (List.replicate 16 0#8))) = some (0x50#8 :: List.replicate 16 0#8, [], false) ∧
      commandLength 0x50#8 = some 18 ∧ (List.replicate 16 0#8).length + 1 < 18) :=
  ⟨ready reset_running, fun h => Bool.noConfusion h.2, by decide, by decide, by decide⟩

theorem witness_NoOperation : (opened State.reset).Ready ∧ 1 ≤ (fr [0#8]).bytes.length :=
  ⟨ready reset_running, by decide⟩

theorem witness_RefusedCommandChangesNoRecord :
    frameOf (.readNet (fr [15#8])) = some ([0x12#8, 15#8], [], false) ∧ (opened resting).Ready ∧
    (∃ t, exec (.readNet (fr [15#8])) (opened resting) = .next t ∧ t.port.slot.status ≠ .ok ∧
      t.port.slot.status ≠ .clamped) :=
  ⟨rfl, ready ⟨rfl, rfl⟩, _, rfl, by decide, by decide⟩

theorem witness_FrameRoundTrip :
    ((Instr.declareLink ⟨[23#8, 1#8], [true], true⟩).wf = true ∧
      frameOf (.declareLink ⟨[23#8, 1#8], [true], true⟩) = some ([0x32#8, 23#8, 1#8], [true], true) ∧
      ∀ f raw, Instr.declareLink ⟨[23#8, 1#8], [true], true⟩ ≠ .restart f raw) ∧
    ((Instr.restart (fr [0#8]) ⟨5#12, 2#2⟩).wf = true ∧
      frameOf (.restart (fr [0#8]) ⟨5#12, 2#2⟩) = some ([0x5A#8, 0#8], [], false)) :=
  ⟨⟨by decide, rfl, fun _ _ h => Instr.noConfusion h⟩, by decide, rfl⟩

theorem witness_ReadSummaryReports : (opened resting).Ready ∧ 1 ≤ (fr [0xFF#8]).bytes.length :=
  ⟨ready ⟨rfl, rfl⟩, by decide⟩

theorem witness_ReadSegmentReports :
    (opened resting).Ready ∧ 1 ≤ (fr [16#8]).bytes.length ∧ 15 < (fr [16#8]).byte 1 ∧
    (fr [15#8]).byte 1 = (15 : SegId).val ∧ (opened resting).seg 15 = none ∧ (fr [0#8]).byte 1 = (0 : SegId).val ∧
    (opened resting).seg 0 = some { seg800 with bridge := some 0 } := by
  refine ⟨ready ⟨rfl, rfl⟩, ?_⟩; decide

theorem witness_ReadNetReports :
    (opened resting).Ready ∧ 1 ≤ (fr [16#8]).bytes.length ∧ 15 < (fr [16#8]).byte 1 ∧
    (fr [15#8]).byte 1 = (15 : SegId).val ∧ (opened resting).seg 15 = none ∧ (fr [0#8]).byte 1 = (0 : SegId).val ∧
    (opened resting).seg 0 = some { seg800 with bridge := some 0 } ∧ (opened resting).netOf 0 = some net0 := by
  refine ⟨ready ⟨rfl, rfl⟩, ?_⟩; decide

/-- A CHECKED link between segments 0 and 1 on AUX0. -/
def link01 : Link :=
  { endA := 0, endB := 1, mode := .checked, aux := some 0, polarity := some .normallyOpen, declared := .opened,
    sensed := some .opened, effective := .opened, disagreeStart := none, disagreeFlag := false }

/-- Segments 0 and 1 with that link at id 23. -/
def linked : State :=
  ((State.reset.setSeg 0 (some seg800)).setSeg 1 (some seg800)).setLink 23 (some link01)

theorem witness_ReadLinkReports :
    (opened linked).Ready ∧ 1 ≤ (fr [24#8]).bytes.length ∧ 23 < (fr [24#8]).byte 1 ∧
    (fr [0#8]).byte 1 = (0 : LinkId).val ∧ (opened linked).link 0 = none ∧ (fr [23#8]).byte 1 = (23 : LinkId).val ∧
    (opened linked).link 23 = some link01 ∧ link01.sensed = some .opened := by
  refine ⟨ready ⟨rfl, rfl⟩, ?_⟩; decide

theorem witness_ReadBridgeReports :
    (opened resting).Ready ∧ 1 ≤ (fr [4#8]).bytes.length ∧ 3 < (fr [4#8]).byte 1 ∧
    (fr [3#8]).byte 1 = (3 : BridgeId).val := by
  refine ⟨ready ⟨rfl, rfl⟩, ?_⟩; decide

theorem witness_ReadTrimReports :
    (opened resting).Ready ∧ 1 ≤ (fr [4#8]).bytes.length ∧ 3 < (fr [4#8]).byte 1 ∧
    (fr [3#8]).byte 1 = (3 : BridgeId).val ∧ ((opened { resting with bridges := Vector.replicate 4 { Bridge.reset with
      trim := { Trim.nominal with gainP := 65535#17 } } }).bridge 3).trim.gainP.toNat < 65536 := by
  refine ⟨ready ⟨rfl, rfl⟩, ?_⟩; decide

theorem witness_ReadNoticesCapturesAndClears :
    (opened resting).Ready ∧ 1 ≤ (fr [253#8]).bytes.length ∧ (15 < (fr [253#8]).byte 1 ∧ (fr [253#8]).byte 1 < 254) ∧
    (15 < (fr [16#8]).byte 1 ∧ (fr [16#8]).byte 1 < 254) ∧ (fr [15#8]).byte 1 = (15 : SegId).val ∧
    (opened resting).seg 15 = none ∧ (opened resting).seg 0 = some { seg800 with bridge := some 0 } ∧
    (fr [255#8]).byte 1 = 255 ∧ (fr [254#8]).byte 1 = 254 := by
  refine ⟨ready ⟨rfl, rfl⟩, ?_⟩; decide

theorem witness_SetNoticeEnablesAdds :
    (opened resting).Ready ∧ 2 ≤ (fr [253#8, 0x20#8]).bytes.length ∧ (15 < (fr [253#8]).byte 1 ∧ (fr [253#8]).byte 1 < 254) ∧
    (fr [15#8]).byte 1 = (15 : SegId).val ∧ (opened resting).seg 15 = none ∧
    (opened resting).seg 0 = some { seg800 with bridge := some 0 } ∧ (fr [255#8]).byte 1 = 255 ∧
    (fr [254#8]).byte 1 = 254 := by
  refine ⟨ready ⟨rfl, rfl⟩, ?_⟩; decide

theorem witness_SetNoticeEnablesAdds_function :
    ∃ set : Segment → Segment, ∀ g : Segment, set g =
      if g.enables &&& 0x30#8 = 0#8 ∧ (g.enables ||| BitVec.ofNat 8 ((fr [0#8, 0x20#8]).byte 2)) &&& 0x30#8 ≠ 0#8 ∧
          g.alarm = .clear then
        ({ g with enables := g.enables ||| BitVec.ofNat 8 ((fr [0#8, 0x20#8]).byte 2) } : Segment).evaluate
      else { g with enables := g.enables ||| BitVec.ofNat 8 ((fr [0#8, 0x20#8]).byte 2) } := ⟨_, fun _ => rfl⟩

theorem witness_ClearNoticeEnablesRemoves :
    (opened resting).Ready ∧ 2 ≤ (fr [253#8, 0x30#8]).bytes.length ∧ (15 < (fr [16#8]).byte 1 ∧ (fr [16#8]).byte 1 < 254) ∧
    (fr [15#8]).byte 1 = (15 : SegId).val ∧ (opened resting).seg 15 = none ∧
    (opened resting).seg 0 = some { seg800 with bridge := some 0 } ∧ (fr [255#8]).byte 1 = 255 ∧
    (fr [254#8]).byte 1 = 254 := by
  refine ⟨ready ⟨rfl, rfl⟩, ?_⟩; decide

theorem witness_ClearNoticeEnablesRemoves_function :
    ∃ clear : Segment → Segment, ∀ g : Segment, clear g =
      { g with
        enables := g.enables &&& ~~~(BitVec.ofNat 8 ((fr [0#8, 0x30#8]).byte 2)),
        alarm := if g.enables &&& 0x30#8 ≠ 0#8 ∧
            (g.enables &&& ~~~(BitVec.ofNat 8 ((fr [0#8, 0x30#8]).byte 2))) &&& 0x30#8 = 0#8 ∧
          g.alarm = .warn then .clear else g.alarm } := ⟨_, fun _ => rfl⟩

theorem witness_SetTimingClamps :
    (opened State.reset).Ready ∧ 17 ≤ (fr (List.replicate 17 0#8)).bytes.length ∧
    (50 = max 50 (min 2000 ((fr (List.replicate 17 0#8)).word 2)) ∧
      150 = max (50 + 100) (min 20000 ((fr (List.replicate 17 0#8)).word 4)) ∧
      1 = max 1 (min 200 ((fr (List.replicate 17 0#8)).word 6)) ∧ 0 = min 60000 ((fr (List.replicate 17 0#8)).word 8) ∧
      50 = max 50 (min 5000 ((fr (List.replicate 17 0#8)).word 10)) ∧
      1 = max 1 (min 100 ((fr (List.replicate 17 0#8)).word 12)) ∧
      20 = max 20 (min 2000 ((fr (List.replicate 17 0#8)).word 14)) ∧
      100 = max 100 (min 2000 ((fr (List.replicate 17 0#8)).word 16))) := by
  refine ⟨ready reset_running, ?_⟩; decide

theorem witness_RestartClearsThePart : (opened resting).Ready ∧ 1 ≤ (fr [0#8]).bytes.length :=
  ⟨ready ⟨rfl, rfl⟩, by decide⟩

theorem witness_ResetRowsStopAndStartThePart :
    (Instr.powerOnReset ⟨1#12, 1#2⟩ = .powerOnReset ⟨1#12, 1#2⟩ ∧ resting.resetHigh = true) ∧
    (({ resting with resetHigh := false } : State).resetHigh = false ∧
      ({ resting with resetHigh := false } : State).supplyValid = true) ∧
    (({ resting with resetHigh := false, supplyValid := false } : State).resetHigh = false ∧
      ({ resting with resetHigh := false, supplyValid := false } : State).supplyValid = false) := by decide

/-- A bridge whose senses read open in OPENING. -/
def openingBridge (crossing : Bool) : Bridge :=
  { Bridge.reset with state := .opening, crossing := crossing, sampled := true, timeout := 19 }

/-- A bridge in CLOSING whose sense still reads open, and one FAULTED for a stuck switch. -/
def halfway : Bridge := { Bridge.reset with state := .closing, sampled := true, timeout := 19 }

/-- See `halfway`. -/
def stuckBridge : Bridge := { Bridge.reset with state := .faulted, cause := some .stuck, watchP := 20 }

theorem witness_EventsWaitForTheirMoment :
    ¬ ({ resting with resetHigh := false } : State).Running ∧ frameOf (.expiry 0) = none ∧
    (resting.aux[(11 : AuxLine)]).due = false ∧ (resting.ext[(1 : ExtLine)]).due = false ∧ linked.link 23 = some link01 ∧
    resting.seg 0 = some { seg800 with bridge := some 0 } ∧
    ((resting.modBridge 3 fun r => { r with state := .faulted, cause := some .trim }).bridge 3).cause = some .trim ∧
    (resting.bridge 0).state ≠ .closing ∧ (resting.bridge 0).state ≠ .opening ∧ (resting.bridge 0).timeout < 20 ∧
    (resting.bridge 0).watchP < 20 ∧ (resting.bridge 0).watchN < 20 ∧ resting.netAt 0 = some net0 ∧
    ((resting.uptime - 0#32).toNat < 1000) ∧
    (halfway.state = .closing ∧ halfway.sampled = true ∧ halfway.sense? halfway.phase = false ∧ halfway.timeout < 20) ∧
    ((openingBridge false).state = .opening ∧ ({ openingBridge false with snsN := true } : Bridge).snsN = true) ∧
    (stuckBridge.state ≠ .parked ∧ stuckBridge.cause ≠ some .closeTimeout ∧ stuckBridge.cause ≠ some .openTimeout ∧
      stuckBridge.count .p = 20) ∧
    ({ netBridge (phaseNet .phaseP []) { Bridge.reset with state := .settling } with uptime := 200#32 } : State).netAt 0 =
      some (phaseNet .phaseP []) := by
  refine ⟨fun h => Bool.noConfusion h.2, ?_⟩; decide

/-- The bytes of a DEFINE SEGMENT or AMEND SEGMENT of 800 V, 100 and 500 Ω/V, 60 s. -/
def declared (target source : Byte) : List Byte :=
  [target, 3#8, 32#8, 0#8, 100#8, 1#8, 244#8, 0#8, 60#8, source, 3#8]

theorem witness_DefineSegment :
    (opened resting).Ready ∧ 11 ≤ (fr (declared 16#8 0#8)).bytes.length ∧ 15 < (fr (declared 16#8 0#8)).byte 1 ∧
    (fr (declared 0#8 0#8)).byte 1 = (0 : SegId).val ∧ (opened resting).seg 0 = some { seg800 with bridge := some 0 } ∧
    (fr (declared 15#8 5#8)).byte 1 = (15 : SegId).val ∧ (opened resting).seg 15 = none ∧
    4 < (fr (declared 15#8 5#8)).byte 10 ∧ Source.ext1Inv.code = (fr (declared 15#8 4#8)).byte 10 ∧
    800 = max 100 (min 1500 ((fr (declared 15#8 4#8)).word 2)) ∧
    100 = max 50 (min 2000 ((fr (declared 15#8 4#8)).word 4)) ∧
    500 = max 100 (min 5000 ((fr (declared 15#8 4#8)).word 6)) ∧ 60 = max 1 ((fr (declared 15#8 4#8)).word 8) := by
  refine ⟨ready ⟨rfl, rfl⟩, ?_⟩; decide

theorem empty_seg (x : SegId) : (opened State.reset).seg x = none := by revert x; decide

theorem empty_link (i : LinkId) : (opened State.reset).link i = none := by revert i; decide

/-- The flag, the alarm and the pending notices of segment 15 right after it was defined with this source, EXT0 being LOW. -/
def definedAs (source : Byte) : Option (Bool × Alarm × BitVec 8) :=
  ((after (exec (.defineSegment (fr (declared 15#8 source))) (opened State.reset))).seg 15).map fun g =>
    (g.ext, g.alarm, g.pending)

theorem witness_DefinedSegmentStandsAlone :
    (opened State.reset).Ready ∧ 11 ≤ (fr (declared 15#8 2#8)).bytes.length ∧
    (fr (declared 15#8 2#8)).byte 1 = (15 : SegId).val ∧ (opened State.reset).seg 15 = none ∧
    (opened State.reset).LinksJoinSegments ∧ (opened State.reset).AttachmentsAgree ∧
    (opened State.reset).NetsAreComponents ∧ (opened State.reset).NetsSound ∧ (opened State.reset).CyclesHeld ∧
    (Source.ext0Inv.code = (fr (declared 15#8 2#8)).byte 10 ∧ ¬ (opened State.reset).ReadsFault .ext0Inv ∧
      definedAs 2#8 = some (true, .clear, 0x04#8)) ∧
    (Source.ext0.code = (fr (declared 15#8 1#8)).byte 10 ∧ (opened State.reset).ReadsFault .ext0 ∧
      definedAs 1#8 = some (true, .fault, 0x84#8)) ∧
    (Source.own.code = (fr (declared 15#8 0#8)).byte 10 ∧ definedAs 0#8 = some (false, .clear, 0x04#8)) := by
  refine ⟨ready reset_running, by decide, by decide, by decide, ?_, ?_, ⟨by decide +kernel, ?_⟩, (fun _ h => nomatch h),
    (fun _ h => nomatch h), ⟨by decide, by unfold State.ReadsFault; decide, by decide +kernel⟩,
    ⟨by decide, by unfold State.ReadsFault; decide, by decide +kernel⟩, by decide, by decide +kernel⟩
  · intro i l h; rw [empty_link i] at h; cases h
  · intro b x
    constructor
    · intro h; revert h; revert b x; decide
    · rintro ⟨g, h, -⟩; rw [empty_seg x] at h; cases h
  · intro n h; cases h

theorem witness_AmendSegment :
    (opened resting).Ready ∧ 11 ≤ (fr (declared 16#8 0#8)).bytes.length ∧ 15 < (fr (declared 16#8 0#8)).byte 1 ∧
    (fr (declared 15#8 0#8)).byte 1 = (15 : SegId).val ∧ (opened resting).seg 15 = none ∧
    (fr (declared 0#8 5#8)).byte 1 = (0 : SegId).val ∧ (opened resting).seg 0 = some { seg800 with bridge := some 0 } ∧
    4 < (fr (declared 0#8 5#8)).byte 10 ∧ Source.ext1Inv.code = (fr (declared 0#8 4#8)).byte 10 := by
  refine ⟨ready ⟨rfl, rfl⟩, ?_⟩; decide

theorem witness_RetireSegment :
    (opened linked).Ready ∧ 1 ≤ (fr [16#8]).bytes.length ∧ 15 < (fr [16#8]).byte 1 ∧
    (fr [15#8]).byte 1 = (15 : SegId).val ∧ (opened linked).seg 15 = none ∧ (fr [1#8]).byte 1 = (1 : SegId).val ∧
    (opened linked).seg 1 = some seg800 ∧ ((opened linked).link 23 = some link01 ∧ link01.endB = 1) ∧
    (opened resting).seg 0 = some { seg800 with bridge := some 0 } ∧
    (∀ i : LinkId, (opened resting).link i = none) := by
  refine ⟨ready ⟨rfl, rfl⟩, ?_⟩; decide

theorem witness_ClearLowMark :
    (opened resting).Ready ∧ 1 ≤ (fr [16#8]).bytes.length ∧ 15 < (fr [16#8]).byte 1 ∧
    (fr [15#8]).byte 1 = (15 : SegId).val ∧ (opened resting).seg 15 = none ∧ (fr [0#8]).byte 1 = (0 : SegId).val ∧
    (opened resting).seg 0 = some { seg800 with bridge := some 0 } := by
  refine ⟨ready ⟨rfl, rfl⟩, ?_⟩; decide

/-- A latched segment with this conductance. -/
def latchedAt (g : Nat) : Segment := { seg800 with quality := .direct, gp := g, alarm := .fault }

/-- A latched segment under external supervision at EXT0. -/
def latchedExt : Segment := { seg800 with source := .ext0, ext := true, alarm := .fault }

/-- The net that supervises it. -/
def extNet : Net := { Net.blank 3 [3] [] with supervision := .external, state := .external }

/-- Latched segments 1 (cleared), 2 (still faulty) and 3 (external), EXT0 at this level. -/
def latchedState (high : Bool) : State :=
  ((({ State.reset with nets := [extNet], ext := Vector.replicate 2 { level := high, run := 0, due := false } }.setSeg 1
    (some (latchedAt 10937499))).setSeg 2 (some (latchedAt 10937500))).setSeg 3 (some latchedExt)).setSeg 4 (some seg800)

theorem witness_AcknowledgeFault :
    (opened (latchedState true)).Ready ∧ 1 ≤ (fr [16#8]).bytes.length ∧ 15 < (fr [16#8]).byte 1 ∧
    (fr [15#8]).byte 1 = (15 : SegId).val ∧ (opened (latchedState true)).seg 15 = none ∧
    ((opened (latchedState true)).seg 4 = some seg800 ∧ seg800.alarm ≠ .fault) ∧
    ((opened (latchedState true)).seg 1 = some (latchedAt 10937499) ∧
      max (latchedAt 10937499).gp (latchedAt 10937499).gn < (latchedAt 10937499).thresholds.faultOff) ∧
    ((opened (latchedState true)).seg 2 = some (latchedAt 10937500) ∧
      (latchedAt 10937500).thresholds.faultOff ≤ max (latchedAt 10937500).gp (latchedAt 10937500).gn) ∧
    ((opened (latchedState true)).seg 3 = some latchedExt ∧ (opened (latchedState true)).netOf 3 = some extNet ∧
      (opened (latchedState true)).verdict extNet.members = .ok) ∧
    ((opened (latchedState false)).netOf 3 = some extNet ∧
      (opened (latchedState false)).verdict extNet.members = .fault) := by
  refine ⟨ready ⟨rfl, rfl⟩, ?_⟩; decide

theorem witness_SpotCheck :
    (opened resting).Ready ∧ 1 ≤ (fr [16#8]).bytes.length ∧ 15 < (fr [16#8]).byte 1 ∧
    (fr [15#8]).byte 1 = (15 : SegId).val ∧ (opened resting).seg 15 = none ∧ (fr [0#8]).byte 1 = (0 : SegId).val ∧
    (opened resting).seg 0 = some { seg800 with bridge := some 0 } ∧ (opened resting).netOf 0 = some net0 ∧
    (net0.state = .rest ∧ net0.startPending = false) ∧
    (opened (netBridge { net0 with startPending := true } Bridge.reset)).netOf 0 = some { net0 with startPending := true } ∧
    (opened (netBridge (phaseNet .phaseN []) Bridge.reset)).netOf 0 = some (phaseNet .phaseN []) ∧
    (opened (latchedState true)).netOf 3 = some extNet ∧
    (opened (netBridge (net0.enterUnmeasurable (some .noBridge)) Bridge.reset)).netOf 0 =
      some (net0.enterUnmeasurable (some .noBridge)) := by
  refine ⟨ready ⟨rfl, rfl⟩, ?_⟩; decide

theorem witness_TableTimersExpire :
    State.reset.Running ∧
    ((State.reset.setSeg 15 (some { seg800 with attrTime := 4294967295#32, expiry := some 0#32 })).seg 15 =
        some { seg800 with attrTime := 4294967295#32, expiry := some 0#32 } ∧
      (0#32 - 4294967295#32 : Uptime).toNat ≤ (State.reset.uptime - 4294967295#32).toNat) ∧
    (({ linked with uptime := 200#32 }.setLink 23 (some { link01 with disagreeStart := some 0#32 })).link 23 =
        some { link01 with disagreeStart := some 0#32 } ∧
      State.reset.timing.agreement ≤ (200#32 - 0#32 : Uptime).toNat) := by
  refine ⟨reset_running, ?_⟩; decide

theorem witness_DefineLink :
    (opened linked).Ready ∧ 7 ≤ (fr [24#8, 0#8, 1#8, 0#8, 0#8, 0#8, 0#8]).bytes.length ∧
    23 < (fr [24#8, 0#8, 1#8, 0#8, 0#8, 0#8, 0#8]).byte 1 ∧ (opened linked).link 23 = some link01 ∧
    (opened linked).link 0 = none ∧ (fr [0#8, 15#8, 1#8]).byte 2 = (15 : SegId).val ∧ (opened linked).seg 15 = none ∧
    (fr [0#8, 0#8, 1#8]).byte 2 = (0 : SegId).val ∧ (fr [0#8, 0#8, 1#8]).byte 3 = (1 : SegId).val ∧
    ((opened linked).seg 0).isSome ∧ ((opened linked).seg 1).isSome ∧ (0 : SegId) ≠ 1 ∧
    2 < (fr [0#8, 0#8, 1#8, 3#8]).byte 4 ∧ (fr [0#8, 0#8, 1#8, 2#8, 12#8, 0#8, 1#8]).byte 4 = 2 ∧
    11 < (fr [0#8, 0#8, 1#8, 2#8, 12#8, 0#8, 1#8]).byte 5 ∧ (fr [0#8, 0#8, 1#8, 0#8, 0#8, 0#8, 1#8]).byte 4 = 0 ∧
    Contact.closed.code = (fr [0#8, 0#8, 1#8, 0#8, 0#8, 0#8, 1#8]).byte 7 ∧
    LinkMode.checked.code = (fr [0#8, 0#8, 1#8, 2#8, 11#8, 1#8, 0#8]).byte 4 ∧
    (11 : AuxLine).val = (fr [0#8, 0#8, 1#8, 2#8, 11#8, 1#8, 0#8]).byte 5 ∧
    Polarity.normallyClosed.code = (fr [0#8, 0#8, 1#8, 2#8, 11#8, 1#8, 0#8]).byte 6 := by
  refine ⟨ready ⟨rfl, rfl⟩, ?_⟩; decide

theorem witness_RetireAndDeclareLink :
    (opened linked).Ready ∧ 2 ≤ (fr [24#8, 0#8]).bytes.length ∧ 23 < (fr [24#8, 0#8]).byte 1 ∧
    (fr [0#8]).byte 1 = (0 : LinkId).val ∧ (opened linked).link 0 = none ∧ (fr [23#8]).byte 1 = (23 : LinkId).val ∧
    (opened linked).link 23 = some link01 ∧ link01.mode ≠ .sensed ∧ 1 < (fr [23#8, 2#8]).byte 2 ∧
    Contact.closed.code = (fr [23#8, 1#8]).byte 2 ∧ Contact.closed ≠ link01.declared ∧
    Contact.opened.code = (fr [23#8, 0#8]).byte 2 ∧ Contact.opened = link01.declared ∧
    (opened (linked.setLink 0 (some { link01 with mode := .sensed }))).link 0 = some { link01 with mode := .sensed } := by
  refine ⟨ready ⟨rfl, rfl⟩, ?_⟩; decide

theorem witness_UptimeAdvanceSamples : resting.Running := ⟨rfl, rfl⟩

/-- Link 23 on AUX0, whose filtered change is due. -/
def auxDue : State := { linked with aux := linked.aux.set 0 { level := false, run := 10, due := true } }

theorem link_auxDue {i : LinkId} {l : Link} (h : auxDue.link i = some l) : i = 23 ∧ l = link01 := by
  have key : ∀ j : LinkId, auxDue.link j = if j = 23 then some link01 else none := by decide
  rw [key i] at h
  split at h
  · exact ⟨‹_›, (Option.some.inj h).symm⟩
  · cases h

/-- Link 23 right after its sensed state became CLOSED. -/
def link01Closed : Option Link :=
  some { link01 with sensed := some .closed, effective := .closed, disagreeStart := some 0#32 }

theorem witness_FilteredChangeAux :
    auxDue.Running ∧ (auxDue.aux[(0 : AuxLine)]).due = true ∧
    ∃ v : State,
      v = { auxDue with aux := auxDue.aux.set 0 { level := true, run := 0, due := false }, links := v.links } ∧
      (∀ i, auxDue.link i = none → v.link i = none) ∧
      (∀ i l, auxDue.link i = some l → l.aux ≠ some 0 ∨ l.polarity = none → v.link i = some l) ∧
      (∀ i l, auxDue.link i = some l → l.sensed ≠ some .closed ∧
        v.link i = some { l with sensed := some .closed, effective := .closed, disagreeStart := some 0#32 }) := by
  refine ⟨⟨rfl, rfl⟩, by decide,
    { auxDue with aux := auxDue.aux.set 0 { level := true, run := 0, due := false }, links := auxDue.links.set 23 link01Closed },
    rfl, by decide, ?_, ?_⟩
  · intro i l h k; obtain ⟨rfl, rfl⟩ := link_auxDue h; revert k; decide
  · intro i l h; obtain ⟨rfl, rfl⟩ := link_auxDue h; decide

/-- EXT0 falls due on the external net of segment 3. -/
def extDue : State := { latchedState true with ext := (latchedState true).ext.set 0 { level := true, run := 10, due := true } }

theorem witness_FilteredChangeExt :
    extDue.Running ∧ (extDue.ext[(0 : ExtLine)]).due = true ∧ extDue.netOf 3 = some extNet ∧ extNet.state = .external ∧
    (3 : SegId) ∈ extNet.members ∧ extDue.seg 3 = some latchedExt ∧ latchedExt.source.Selects 0 ∧
    extDue.seg 4 = some seg800 ∧ extDue.netOf 4 = none ∧
    (∃ v : State, v = { extDue with
      ext := extDue.ext.set 0 { level := false, run := 0, due := false }, segs := v.segs } ∧
      (∀ x, v.seg x = extDue.seg x) ∧ v.ReadsFault latchedExt.source ∧ v.verdict extNet.members = .fault ∧
      latchedExt.movedTo .fault = latchedExt) := by
  refine ⟨⟨rfl, rfl⟩, by decide, by decide, by decide, by decide, by decide, ?_, by decide, by decide,
    { extDue with ext := extDue.ext.set 0 { level := false, run := 0, due := false } }, rfl, fun _ => rfl, ?_, by decide,
    by decide⟩
  · unfold Source.Selects; decide
  · unfold State.ReadsFault; decide

theorem witness_AttachBridge :
    (opened resting).Ready ∧ 2 ≤ (fr [4#8, 0#8]).bytes.length ∧ 3 < (fr [4#8, 0#8]).byte 1 ∧
    (fr [3#8, 15#8]).byte 1 = (3 : BridgeId).val ∧ (fr [3#8, 15#8]).byte 2 = (15 : SegId).val ∧
    (opened resting).seg 15 = none ∧ (fr [0#8, 0#8]).byte 2 = (0 : SegId).val ∧
    ((opened resting).bridge 0).attached ≠ none ∧ (opened linked).seg 1 = some seg800 ∧
    ((opened linked).bridge 3).attached = none ∧ seg800.bridge = none := by
  refine ⟨ready ⟨rfl, rfl⟩, ?_⟩; decide

theorem witness_DetachBridge :
    (opened resting).Ready ∧ 1 ≤ (fr [4#8]).bytes.length ∧ 3 < (fr [4#8]).byte 1 ∧
    (fr [3#8]).byte 1 = (3 : BridgeId).val ∧ ((opened resting).bridge 3).attached = none ∧
    (fr [0#8]).byte 1 = (0 : BridgeId).val ∧ ((opened resting).bridge 0).attached = some 0 ∧
    (opened resting).seg 0 = some { seg800 with bridge := some 0 } := by
  refine ⟨ready ⟨rfl, rfl⟩, ?_⟩; decide

/-- Bridge 3 FAULTED with this cause. -/
def faultedState (c : FaultCause) : State := resting.modBridge 3 fun r => { r with state := .faulted, cause := some c }

theorem witness_ResetBridge :
    (opened resting).Ready ∧ 1 ≤ (fr [4#8]).bytes.length ∧ 3 < (fr [4#8]).byte 1 ∧
    (fr [3#8]).byte 1 = (3 : BridgeId).val ∧ ((opened resting).bridge 3).state ≠ .faulted ∧
    (((opened (faultedState .trim)).bridge 3).state = .faulted ∧
      ((opened (faultedState .trim)).bridge 3).cause = some .trim) ∧
    (((opened (faultedState .stuck)).bridge 3).state = .faulted ∧
      ((opened (faultedState .stuck)).bridge 3).cause ≠ some .trim) := by
  refine ⟨ready ⟨rfl, rfl⟩, ?_⟩; decide

theorem witness_BridgeCommandTable :
    Bridge.reset.state = .parked ∧ ({ Bridge.reset with state := .settling } : Bridge).phase = .p ∧
    ({ Bridge.reset with state := .opening, crossing := true } : Bridge).state = .opening := by decide

/-- A SETTLING bridge of a net in a phase with this many samples in its window. -/
def settlingState (st : NetState) (k : Nat) : State :=
  netBridge (phaseNet st (flatWindow 2000 6000 k))
    { Bridge.reset with state := .settling, phase := if st = .phaseN then .n else .p }

theorem witness_SampleEventConverts :
    (settlingState .phaseP 7).Running ∧ ((settlingState .phaseP 7).bridge 0).cause ≠ some .trim ∧
    2000 = min 16000 ((8000 * ((settlingState .phaseP 7).bridge 0).trim.gainP.toNat + 131072) / 262144) ∧
    6000 = min 16000 ((24000 * ((settlingState .phaseP 7).bridge 0).trim.gainN.toNat + 131072) / 262144) ∧
    (resting.bridge 0).state ≠ .settling ∧ ((settlingState .phaseP 7).bridge 0).state = .settling ∧
    (settlingState .phaseP 7).netOfBridge 0 = some (phaseNet .phaseP (flatWindow 2000 6000 7)) ∧
    (phaseNet .phaseP (flatWindow 2000 6000 7)).inProgress = true ∧
    ¬ (flatWindow 2000 6000 7).length = 8 ∧ (flatWindow 2000 6000 8).length = 8 ∧
    (∀ y ∈ flatWindow 2000 6000 8, ∀ z ∈ flatWindow 2000 6000 8, y.up ≤ z.up + 6 ∧ y.un ≤ z.un + 6) ∧
    (phaseNet .phaseN (flatWindow 2000 6000 7)).phaseP = some (ph 2000 6000) ∧
    ((settlingState .phaseN 7).bridge 0).references = some refs := by
  refine ⟨⟨rfl, rfl⟩, ?_⟩; decide

/-- A bridge whose P switch reads closed in CLOSING. -/
def closingBridge : Bridge := { Bridge.reset with state := .closing, drvP := true, snsP := true, sampled := true, timeout := 19 }

theorem witness_CloseConfirmation :
    (netBridge (phaseNet .phaseP []) closingBridge).Running ∧
    ((netBridge (phaseNet .phaseP []) closingBridge).bridge 0).state = .closing ∧
    ((netBridge (phaseNet .phaseP []) closingBridge).bridge 0).sampled = true ∧
    ((netBridge (phaseNet .phaseP []) closingBridge).bridge 0).timeout < 20 ∧
    ((netBridge (phaseNet .phaseP []) closingBridge).bridge 0).sense? .p = true ∧
    (netBridge (phaseNet .phaseP []) closingBridge).netOfBridge 0 = some (phaseNet .phaseP []) ∧
    (phaseNet .phaseP []).inProgress = true ∧ (phaseNet .phaseP []).grant = some 0 ∧
    (netBridge net0 closingBridge).netOfBridge 0 = some net0 ∧ net0.grant ≠ some 0 := by
  refine ⟨⟨rfl, rfl⟩, ?_⟩; decide

theorem witness_OpenConfirmation :
    (netBridge (phaseNet .release []) (openingBridge false)).Running ∧
    ((netBridge (phaseNet .release []) (openingBridge false)).bridge 0).state = .opening ∧
    ((netBridge (phaseNet .release []) (openingBridge false)).bridge 0).sampled = true ∧
    ((netBridge (phaseNet .release []) (openingBridge false)).bridge 0).timeout < 20 ∧
    ((netBridge (phaseNet .release []) (openingBridge false)).bridge 0).crossing = false ∧
    (netBridge (phaseNet .release []) (openingBridge false)).netOfBridge 0 = some (phaseNet .release []) ∧
    (netBridge (phaseNet .release []) (openingBridge false)).netAt 0 = some (phaseNet .release []) ∧
    (phaseNet .release []).grant = some 0 ∧
    ((netBridge (phaseNet .phaseN []) (openingBridge true)).bridge 0).crossing = true ∧
    (netBridge { net0 with startPending := true } (openingBridge false)).netAt 0 = some { net0 with startPending := true } ∧
    (State.reset.modBridge 3 fun _ => openingBridge false).netOfBridge 3 = none := by
  refine ⟨⟨rfl, rfl⟩, ?_⟩; decide

theorem witness_SwitchFaults :
    ((resting.modBridge 0 fun r => { r with state := .closing, timeout := 20 }).bridge 0).timeout = 20 ∧
    ((resting.modBridge 0 fun r => { r with state := .opening, timeout := 20 }).bridge 0).state = .opening ∧
    ((resting.modBridge 0 fun r => { r with state := .dwell, watchP := 20 }).bridge 0).count .p = 20 ∧
    ((resting.modBridge 0 fun r => { r with state := .settling, watchN := 20 }).bridge 0).count .n = 20 ∧
    ((resting.modBridge 0 fun r => { r with watchN := 20 }).bridge 0).state = .parked ∧
    ((faultedState .openTimeout).bridge 3).cause = some .openTimeout ∧ Phase.n ≠ (resting.bridge 0).phase ∧
    resting.supplyValid = true ∧ resting.resetHigh = true := by decide

theorem witness_CycleStartGrants :
    resting.netAt 0 = some net0 ∧ (∀ m ∈ resting.nets, m.anchor = 0 → m = net0) ∧ resting.Grantee net0 0 ∧
    ((∀ b ∈ net0.bridges, ((netBridge net0 (openingBridge false)).bridge b).state ≠ .parked) ∧ net0.state = .rest ∧
      ∀ m ∈ (netBridge net0 (openingBridge false)).nets, m.anchor = 0 → m = net0) := by
  refine ⟨by decide, by decide, ⟨by decide, by decide, ?_⟩, by decide⟩
  intro c h _; revert h; revert c; decide

theorem witness_DwellTimerExpiry :
    ({ netBridge (phaseNet .phaseP []) { Bridge.reset with state := .dwell } with uptime := 200#32 } : State).Running ∧
    ({ netBridge (phaseNet .phaseP []) { Bridge.reset with state := .dwell } with uptime := 200#32 } : State).netAt 0 =
      some (phaseNet .phaseP []) ∧ 200 ≤ (200#32 - 0#32 : Uptime).toNat ∧
    (({ netBridge (phaseNet .phaseP []) { Bridge.reset with state := .dwell } with uptime := 200#32 } : State).bridge
      0).state = .dwell := by
  refine ⟨⟨rfl, rfl⟩, ?_⟩; decide

theorem witness_MaxDwellTimerExpiry :
    ({ settlingState .phaseN 8 with uptime := 6000#32 } : State).Running ∧
    ({ settlingState .phaseN 8 with uptime := 6000#32 } : State).netAt 0 =
      some (phaseNet .phaseN (flatWindow 2000 6000 8)) ∧ 6000 ≤ (6000#32 - 0#32 : Uptime).toNat ∧
    (phaseNet .phaseN (flatWindow 2000 6000 8)).window.length = 8 ∧
    (phaseNet .phaseN (flatWindow 2000 6000 8)).phaseP = some (ph 2000 6000) ∧
    ((settlingState .phaseN 8).bridge 0).references = some refs ∧
    (phaseNet .phaseP (flatWindow 2000 6000 8)).state = .phaseP := by
  refine ⟨⟨rfl, rfl⟩, ?_⟩; decide

theorem witness_QuietAndSpacingExpiry :
    ({ netBridge (net0.enterQuiet 0#32 300) Bridge.reset with uptime := 300#32 } : State).Running ∧
    ({ netBridge (net0.enterQuiet 0#32 300) Bridge.reset with uptime := 300#32 } : State).netAt 0 =
      some (net0.enterQuiet 0#32 300) ∧ 300 ≤ (300#32 - 0#32 : Uptime).toNat ∧
    (net0.enterQuiet 0#32 300).quiet = some { start := 0#32, length := 300, expired := false } ∧
    ({ resting with uptime := 1000#32 } : State).netAt 0 = some net0 ∧
    net0.spacing = some { start := 0#32, length := 1000 } ∧ 1000 ≤ (1000#32 - 0#32 : Uptime).toNat := by
  refine ⟨⟨rfl, rfl⟩, ?_⟩; decide

theorem witness_CompletionRecordsAndAnswers :
    calculate refs 500 (ph 2000 6000) (ph 7000 1000) =
      { outcome := .valid, s1 := some 8000, s2 := some 8000, gp := some 1000000, gn := some 2000000 } ∧
    (calculate refs 500 (ph 180 250) (ph 210 220)).outcome ≠ .valid ∧
    (resting.seg 0 = some { seg800 with bridge := some 0 } ∧ (0 : SegId) ∈ net0.members ∧ (0 : SegId) ∉ net0.covered) ∧
    resting.seg 15 = none ∧
    ({ phaseNet .phaseN [] with covered := [0] } : Net).members = [0] ∧
    (((netBridge { phaseNet .phaseN [] with covered := [0] } Bridge.reset).attribute [0] false 1000000 2000000).seg 0).map
      (fun h => (h.quality, h.gp, h.gn)) = some (.direct, 1000000, 2000000) ∧
    (((netBridge { phaseNet .phaseN [] with covered := [0] } Bridge.reset).complete
      { phaseNet .phaseN [] with covered := [0] } 0 refs (ph 2000 6000) (ph 7000 1000)).seg 0).map
      (fun h => (h.quality, h.lastSpot, h.pending)) = some (.direct, some .valid, 0x02#8) := by decide

theorem witness_StagedCalculation :
    ({ ph 2000 6000 with overRange := true } : PhaseValues).overRange = true ∧ (ph 180 250).up + (ph 180 250).un < 500 ∧
    ((max 8000 6990 : Nat) : Int) < 8 * |(8000 : Int) - 6990| ∧ 8 * |(8000 : Int) - 7000| ≤ ((max 8000 7000 : Nat) : Int) ∧
    (4000 : Int) * 3900 - 4100 * 4000 ≤ 0 ∧ (0 : Int) < 7000 * 6000 - 2000 * 1000 := by
  refine ⟨rfl, by decide, ?_⟩
  norm_num

theorem witness_ThresholdsOfProperties :
    (100 ≤ 100 ∧ 100 ≤ 1500 ∧ 50 ≤ 50 ∧ 50 ≤ 2000 ∧ 50 ≤ 50 ∧ 50 ≤ 5000) ∧ (100 ≤ 1500 ∧ 2000 ≤ 5000) := by decide

/-- A fresh record with these values, alarm and enables. -/
def judged (g : Nat) (a : Alarm) (e : BitVec 8) : Segment :=
  { seg800 with latch := false, quality := .direct, gp := g, alarm := a, enables := e }

theorem witness_AlarmEvaluation :
    ((judged 2500000 .clear 0x20#8).enables &&& 0x30#8 ≠ 0#8) ∧
    (Alarm.warn = .fault ↔ ((judged 2500000 .clear 0x20#8).alarm ≠ .fault ∧ 12500000 ≤ max 2500000 0) ∨
      ((judged 2500000 .clear 0x20#8).alarm = .fault ∧ 10937500 ≤ max 2500000 0)) ∧
    ((judged 2500000 .clear 0x20#8).alarm = .clear ∧ max 2500000 0 < 12500000 ∧ 2500000 ≤ max 2500000 0) ∧
    (judged 2500000 .clear 0x20#8).evaluate.alarm = .warn ∧
    (judged 12500000 .warn 0x20#8).evaluate.alarm = .fault ∧ (judged 2187499 .fault 0x20#8).evaluate.alarm = .clear ∧
    (judged 2500000 .clear 0x00#8).evaluate.alarm = .clear := by decide

theorem witness_AttributionCases :
    ([0, 3] : List SegId).Nodup ∧ (∀ x ∈ ([0, 3] : List SegId), (twoSegs.seg x).isSome) ∧
    (([0, 3] : List SegId).filter twoSegs.known = [0]) ∧ (800000 ≤ 1200000 + max (1200000 / 8) 50000) ∧
    ([3] : List SegId).filter twoSegs.known = [] ∧
    (([0, 1] : List SegId).filter (twoSegs.setSeg 1 (twoSegs.seg 0)).known = [0, 1]) ∧
    1600000 + max (100000 / 8) 50000 > 100000 ∧ ([0, 3, 4] : List SegId).filter twoSegs.known = [0] := by decide

theorem witness_ComponentsArePaths :
    (linked.setLink 23 (some { link01 with declared := .closed, effective := .closed })).components = [[0, 1]] ∧
    linked.components = [[0], [1]] := by decide +kernel

/-- Segment 0 measured by bridge 0, CLOSING on the P side. -/
def measuring : State := netBridge { phaseNet .phaseP [] with confirmation := none }
  { Bridge.reset with state := .closing, drvP := true }

theorem measuring_components : measuring.NetsAreComponents := by
  refine ⟨by decide +kernel, ?_⟩
  intro n h
  obtain rfl : n = { phaseNet .phaseP [] with confirmation := none } := by simpa [measuring, netBridge] using h
  decide

theorem measuring_nets : measuring.NetsSound := by
  intro n h
  obtain rfl : n = { phaseNet .phaseP [] with confirmation := none } := by simpa [measuring, netBridge] using h
  unfold Net.Sound; decide

theorem measuring_switch_laws : measuring.SwitchLaws := by
  refine ⟨measuring_components, measuring_nets, ?_, ?_⟩
  · intro b; unfold Bridge.Sound Bridge.DrivesSafe; revert b; decide
  · refine ⟨fun b h => ⟨_, List.mem_singleton.mpr rfl, ?_⟩, fun b h => ?_⟩
    · have : b = 0 := by revert h; revert b; decide
      subst this; decide
    · revert h; revert b; decide

/-- Its net in PHASE_P. -/
def measuringNet : Net := { phaseNet .phaseP [] with confirmation := none }

/-- A state that holds only one sound net of segment 0 has it apart from others, and sound. -/
theorem only_net {s : State} {m : Net} (h : s.nets = [m]) (hm : m.members = [0] ∧ m.anchor = 0) (hs : m.Sound) :
    s.NetsApart ∧ s.NetsSound := by
  refine ⟨⟨fun n k => ?_, by rw [h]; exact List.pairwise_singleton _ _⟩, fun n k => ?_⟩
  · obtain rfl : n = m := by simpa [h] using k
    simp [hm.1, hm.2]
  · obtain rfl : n = m := by simpa [h] using k
    exact hs

theorem measuringNet_sound : measuringNet.Sound := by unfold Net.Sound; decide

/-- A state that holds only the measuring net. -/
theorem only_measuringNet {s : State} (h : s.nets = [measuringNet]) : s.NetsApart ∧ s.NetsSound :=
  only_net h (by decide) measuringNet_sound

/-- Right after segment 1 was defined and joined to segment 0 while bridge 0 measures; the nets are those held before. -/
def merged : State :=
  (measuring.setSeg 1 (some seg800)).setLink 23 (some
    { link01 with mode := .declared, aux := none, polarity := none, declared := .closed, sensed := none,
                  effective := .closed })

/-- A QUIET net of segment 0 that began its period at uptime 0. -/
def quietNet (length : Nat) : Net :=
  { net0 with state := .quiet, spacing := none, quiet := some { start := 0#32, length := length, expired := false } }

/-- Segment 0 at uptime 6 in a quiet period of this length. -/
def waiting (length : Nat) : State := { netBridge (quietNet length) Bridge.reset with uptime := 6#32 }

theorem waiting_ready (length : Nat) : (waiting length).NetsApart ∧ (waiting length).NetsSound :=
  only_net (m := quietNet length) rfl ⟨rfl, rfl⟩ (by unfold Net.Sound; simp [quietNet, net0, Net.blank])

/-- Segment 0 with a spot pending and alarm WARN, its source just amended to EXT0, whose line reads fault. -/
def amended : State :=
  resting.setSeg 0 (some { seg800 with bridge := some 0, source := .ext0, alarm := .warn, spot := some 0#32 })

theorem witness_RecomputeDerivesNets :
    (merged.NetsApart ∧ merged.NetsSound) ∧
    merged.recompute.nets.map (fun n => (n.members, n.supervision, n.state)) = [([0, 1], .own, .quiet)] ∧
    (measuring.setSeg 1 (some seg800)).recompute.nets.map (fun n => (n.members, n.state)) =
      [([0], .phaseP), ([1], .unmeasurable)] ∧
    ((waiting 5).NetsApart ∧ (waiting 5).NetsSound) ∧ (waiting 5).WaitIsOver (quietNet 5) [0] ∧
    (waiting 5).recompute.nets.map (fun n => (n.state, n.grant)) = [(.phaseP, some 0)] ∧
    ((waiting 5).recompute.bridge 0).drvP = true ∧
    ((waiting 6).NetsApart ∧ (waiting 6).NetsSound) ∧ ¬ (waiting 6).WaitIsOver (quietNet 6) [0] ∧
    (waiting 6).recompute.nets = [quietNet 6] ∧
    (amended.NetsApart ∧ amended.NetsSound) ∧
    (amended.recompute.seg 0).map (fun g => (g.ext, g.alarm, g.pending)) = some (true, .fault, 0x92#8) ∧
    (amended.recompute.seg 0).map (fun g => (g.spot, g.lastSpot)) = some (none, some .external) := by
  refine ⟨only_measuringNet rfl, by decide +kernel, by decide +kernel, waiting_ready 5, ?_, by decide +kernel,
    by decide +kernel, waiting_ready 6, ?_, by decide +kernel,
    only_net (m := net0) rfl ⟨rfl, rfl⟩ (by unfold Net.Sound; decide), by decide +kernel,
    by decide +kernel⟩
  · exact .inl ⟨rfl, ⟨_, rfl, .inr (by decide)⟩, by decide⟩
  · rintro (⟨-, ⟨q, h, k⟩, -⟩ | ⟨h, -⟩)
    · cases h; revert k; decide
    · cases h

/-- Bridge 0 FAULTED while its net measures and covers the spot of segment 0. -/
def faulting : State :=
  netBridge { measuringNet with covered := [0] } { Bridge.reset with state := .faulted, cause := some .closeTimeout }

/-- A net left UNMEASURABLE by its stuck bridge, which a RESET BRIDGE has just returned. -/
def stuckNet : Net :=
  { net0 with supervision := .none, state := .unmeasurable, spacing := none, reason := some .stuckBridge,
              lastGranted := some 0, lastResult := some (endingResult .bridgeFault 0#32) }

/-- See `stuckNet`. -/
def returned : State := netBridge stuckNet (openingBridge false)

theorem witness_InterruptedCycles :
    (returned.NetsApart ∧ returned.NetsSound) ∧ stuckNet ∈ returned.nets ∧ stuckNet.supervision ≠ .own ∧
    (returned.recompute.nets.map fun n => (n.state, n.reason, n.lastGranted, n.lastResult.map (·.outcome))) =
      [(.quiet, none, some 0, some .bridgeFault)] ∧
    (merged.NetsApart ∧ merged.NetsSound) ∧ measuringNet ∈ merged.nets ∧ measuringNet.grant = some 0 ∧
    (merged.bridge 0).state ≠ .parked ∧ (merged.recompute.bridge 0).state = .opening ∧
    (faulting.recompute.nets.map fun n => (n.members, n.state, n.lastResult.map (·.outcome))) =
      [([0], .unmeasurable, some .bridgeFault)] ∧
    (faulting.recompute.seg 0).map (·.lastSpot) = some (some .bridgeFault) ∧
    ((measuring.modBridge 0 fun b => { b with attached := none }).recompute.nets.map fun n =>
      (n.members, n.state, n.lastResult.map (·.outcome))) = [([0], .unmeasurable, some .abandoned)] :=
  ⟨only_net (m := stuckNet) rfl ⟨rfl, rfl⟩ (by unfold Net.Sound; decide), List.mem_singleton.mpr rfl, by decide,
    by decide +kernel, only_measuringNet rfl, List.mem_singleton.mpr rfl, rfl, by decide, by decide +kernel, by decide +kernel,
    by decide +kernel, by decide +kernel⟩

theorem witness_LinesFollowIsKept :
    State.reset.LinesFollow ∧ ∃ t, step { State.reset with pending := [.chipSelectFall] } = .next t := by
  refine ⟨⟨?_, fun h => absurd reset_running h, fun _ _ => ?_⟩, _, rfl⟩
  · constructor
    · intro h; cases h
    · rintro ⟨-, x, g, h, -⟩
      have none_at : ∀ y : SegId, State.reset.seg y = none := by decide
      rw [none_at x] at h; cases h
  · exact ⟨fun _ => .inr (by decide), fun _ => rfl⟩

/-- `linked` with bridge 0 attached to segment 0. -/
def joined : State :=
  (linked.setSeg 0 (some { seg800 with bridge := some 0 })).modBridge 0 fun r => { r with attached := some 0 }

theorem witness_TablesAgreeIsKept :
    joined.LinksJoinSegments ∧ joined.AttachmentsAgree ∧ joined.link 23 = some link01 ∧
    (joined.bridge 0).attached = some 0 ∧ ∃ t, step { joined with pending := [.pinReset] } = .next t := by
  refine ⟨fun i l h => ?_, fun b x => ?_, by decide, by decide, _, rfl⟩
  · have key : ∀ j : LinkId, joined.link j = if j = 23 then some link01 else none := by decide
    rw [key i] at h
    split at h
    · cases h; decide
    · cases h
  · have key : ∀ (c : BridgeId) (y : SegId), (joined.bridge c).attached = some y ↔
        (joined.seg y).bind (·.bridge) = some c := by decide
    rw [key b x]
    simp [Option.bind_eq_some_iff]

theorem measuring_follows_tables : measuring.NetsFollowTables := by
  intro n h
  obtain rfl : n = { phaseNet .phaseP [] with confirmation := none } := by simpa [measuring, netBridge] using h
  refine ⟨by decide, fun ext stuck eligible he hs hl => ?_, fun x hx g hg => ?_⟩
  · have no_ext : ¬ ext := fun k => by
      obtain ⟨x, hx, g, hg, hsrc⟩ := he.mp k
      obtain rfl : x = 0 := by simpa [phaseNet, net0, Net.blank] using hx
      cases hg; exact hsrc rfl
    have no_stuck : ¬ stuck := fun k => absurd (hs.mp k) (by decide)
    have is_eligible : eligible := hl.mpr (by decide)
    simp [no_ext, no_stuck, is_eligible, phaseNet, net0, Net.blank]
  · obtain rfl : x = 0 := by simpa [phaseNet, net0, Net.blank] using hx
    cases hg; decide

theorem measuring_cycles_held : measuring.CyclesHeld := by
  intro n h
  obtain rfl : n = measuringNet := List.mem_singleton.mp h
  refine ⟨?_, fun b k => ?_, by decide⟩
  · constructor <;> decide
  · obtain rfl : (0 : BridgeId) = b := by simpa [measuringNet, phaseNet] using k
    unfold Net.Paced Bridge.Serves; decide

theorem witness_SwitchLawsAreKept :
    measuring.SwitchLaws ∧ measuring.NetsFollowTables ∧ measuring.CyclesHeld ∧
    ∃ t, step { measuring with pending := [.closeTimeout 0] } = .next t :=
  ⟨measuring_switch_laws, measuring_follows_tables, measuring_cycles_held, _, rfl⟩

/-- The phase-N values, the references and the cycle start that SAMPLE_EVENT and MAX_DWELL_TIMER_EXPIRY need are held. -/
theorem test_phaseN_net_keeps_pace :
    (phaseNet .phaseN (flatWindow 2000 6000 8)).CycleSound ∧
    (phaseNet .phaseN (flatWindow 2000 6000 8)).Paced ((settlingState .phaseN 8).bridge 0) ∧
    ((settlingState .phaseN 8).bridge 0).Sound := by
  refine ⟨by constructor <;> decide, ?_, ?_⟩
  · unfold Net.Paced Bridge.Serves; decide
  · unfold Bridge.Sound Bridge.DrivesSafe; decide

theorem witness_RangesAreKept :
    (∃ t, step { linked with pending := [.expiry 0] } = .next t) ∧ linked.SegmentsSound ∧ linked.LinksSound ∧
    linked.LinksFollowLines ∧ linked.timing.Sound := by
  have segs : ∀ y : SegId, linked.seg y = if y = 0 ∨ y = 1 then some seg800 else none := by decide
  have links : ∀ j : LinkId, linked.link j = if j = 23 then some link01 else none := by decide
  refine ⟨⟨_, rfl⟩, fun x g h => ?_, fun i l h => ?_, fun i l h => ?_, ?_⟩
  · rw [segs x] at h
    split at h
    · cases h; constructor <;> decide
    · cases h
  · rw [links i] at h
    split at h
    · cases h; unfold Link.Sound; decide
    · cases h
  · rw [links i] at h
    split at h
    · cases h; exact ⟨fun k => LinkMode.noConfusion k, fun _ => ⟨0, .normallyOpen, rfl, rfl, by decide⟩⟩
    · cases h
  · unfold Timing.Sound; decide

end Sys2Proof.Tests
end

/-! # Insulation arithmetic: the staged calculation (R101 to R107) and the thresholds (R5, R110, R111) -/

namespace Sys2Proof.Machine

/-! ## The shared integer operations -/

/-- The model forms |a - b| from two truncated differences, one of which is 0. -/
theorem natCast_absDiff (a b : Nat) : (absDiff a b : Int) = |(a : Int) - b| := by
  unfold absDiff
  rcases le_total a b with h | h
  · rw [abs_of_nonpos (by omega)]
    omega
  · rw [abs_of_nonneg (by omega)]
    omega

theorem lt_eight_mul_absDiff_iff (m a b : Nat) : m < 8 * absDiff a b ↔ (m : Int) < 8 * |(a : Int) - b| := by
  rw [← natCast_absDiff]
  norm_cast

theorem eight_mul_absDiff_le_iff (m a b : Nat) : 8 * absDiff a b ≤ m ↔ 8 * |(a : Int) - b| ≤ (m : Int) := by
  rw [← natCast_absDiff]
  norm_cast

/-- Rounding half up keeps the order of quotients: a larger divisor never gives a larger result. -/
theorem divRound_antitone (n : Nat) {a b : Nat} (ha : 0 < a) (hab : a ≤ b) : divRound n b ≤ divRound n a := by
  unfold divRound
  rw [Nat.le_div_iff_mul_le ha]
  have hq : (n + b / 2) / b * b ≤ n + b / 2 := Nat.div_mul_le_self _ _
  generalize (n + b / 2) / b = q at hq ⊢
  obtain ⟨k, rfl⟩ := Nat.exists_eq_add_of_le hab
  rcases Nat.eq_zero_or_pos q with rfl | hpos
  · omega
  · have hk : k ≤ q * k := Nat.le_mul_of_pos_left k hpos
    rw [Nat.mul_add] at hq
    omega

/-! ## One equation per outcome of the calculation -/

section Stages

variable {g : References} {limit : Nat} {p n : PhaseValues}

/-- What lets the calculation pass stages 1 and 2: both phases within range (R101), both sums positive and at the limit or
above (R102). -/
structure PassesRangeAndVoltage (limit : Nat) (p n : PhaseValues) : Prop where
  inRangeP : p.overRange = false
  inRangeN : n.overRange = false
  limitP : limit ≤ p.up + p.un
  limitN : limit ≤ n.up + n.un
  positiveP : 0 < p.up + p.un
  positiveN : 0 < n.up + n.un

/-- The determinant of stage 4, over the integers (R104). -/
def determinant (p n : PhaseValues) : Int := (n.up * p.un : Nat) - (p.up * n.un : Nat)

theorem calculate_of_overRange (h : p.overRange = true ∨ n.overRange = true) :
    calculate g limit p n = { outcome := .overRange, s1 := none, s2 := none, gp := none, gn := none } := by
  unfold calculate
  rw [if_pos (by simpa using h)]

theorem calculate_of_lowVoltage (hp : p.overRange = false) (hn : n.overRange = false)
    (low : p.up + p.un < limit ∨ n.up + n.un < limit ∨ p.up + p.un = 0 ∨ n.up + n.un = 0) :
    calculate g limit p n =
      { outcome := .lowVoltage, s1 := some (p.up + p.un), s2 := some (n.up + n.un), gp := none, gn := none } := by
  unfold calculate
  rw [if_neg (by simp [hp, hn]), if_pos (by simpa [or_assoc] using low)]

/-- Behind stage 2 the stages 3 and 4 alone decide between a discarded result and the quotients. -/
theorem calculate_of_passes (h : PassesRangeAndVoltage limit p n) :
    calculate g limit p n =
      if max (p.up + p.un) (n.up + n.un) < 8 * absDiff (p.up + p.un) (n.up + n.un) then
        { outcome := .unsteady, s1 := some (p.up + p.un), s2 := some (n.up + n.un), gp := none, gn := none }
      else if determinant p n ≤ 0 then
        { outcome := .indeterminate, s1 := some (p.up + p.un), s2 := some (n.up + n.un), gp := none, gn := none }
      else calculateQuotients g p n (determinant p n).toNat := by
  obtain ⟨hp, hn, limitP, limitN, posP, posN⟩ := h
  unfold calculate
  rw [if_neg (by simp [hp, hn]), if_neg (by simp only [Bool.or_eq_true, decide_eq_true_eq]; omega)]
  rfl

/-- Stages 5 to 7 (R105, R106): a quotient above G_MAX or an unsettled phase degrades the result. -/
theorem calculateQuotients_eq (g : References) (p n : PhaseValues) (d : Nat) {qp qn : Nat}
    (hqp : qp = divRound (n.un * (p.up * g.grP + p.un * g.grN)) d)
    (hqn : qn = divRound (p.up * (n.up * g.grP + n.un * g.grN)) d) :
    calculateQuotients g p n d =
      { outcome := if p.unsettled = true ∨ n.unsettled = true ∨ Config.gMax < qp ∨ Config.gMax < qn then .degraded
          else .valid,
        s1 := some (p.up + p.un), s2 := some (n.up + n.un),
        gp := some (min Config.gMax qp), gn := some (min Config.gMax qn) } := by
  subst hqp hqn
  simp only [calculateQuotients, Bool.or_eq_true, decide_eq_true_eq, or_assoc]

end Stages

/-! ## The on and off values -/

theorem onValue_le_gMax (f v : Nat) : onValue f v ≤ Config.gMax := min_le_left _ _

theorem onValue_antitone {f f' v : Nat} (pos : 0 < f * v) (h : f * v ≤ f' * v) : onValue f' v ≤ onValue f v :=
  min_le_min_left _ (divRound_antitone _ pos h)

/-- The extreme divisors of clamped properties give the extreme on values before the limit (R110). -/
theorem divRound_of_divisor_range {d : Nat} (lo : 5000 ≤ d) (hi : d ≤ 7500000) :
    133333 ≤ divRound (10 ^ 12) d ∧ divRound (10 ^ 12) d ≤ 200000000 := by
  have smallest : divRound (10 ^ 12) 7500000 = 133333 := by decide
  have largest : divRound (10 ^ 12) 5000 = 200000000 := by decide
  exact ⟨smallest ▸ divRound_antitone _ (by omega) hi, largest ▸ divRound_antitone _ (by omega) lo⟩

theorem le_onValue_of_divisor_range {f v : Nat} (lo : 5000 ≤ f * v) (hi : f * v ≤ 7500000) : 133333 ≤ onValue f v :=
  le_min (by decide) (divRound_of_divisor_range lo hi).1

theorem offValue_mono {a b : Nat} (h : a ≤ b) : offValue a ≤ offValue b := by
  unfold offValue
  omega

/-- The band between an off value and its on value is one eighth of the on value (R111). -/
theorem offValue_add_band {on : Nat} (h : 133333 ≤ on) : offValue on + 16666 ≤ on := by
  unfold offValue
  omega

/-! ## The obligations -/

/-- Settles O48: the first two stages have an equation each; behind them the model's own chain of stages 3 to 7 decides. -/
theorem stagedCalculation : Obligations.StagedCalculation := by
  unfold Obligations.StagedCalculation
  intro g limit p n s1 s2 d hs1 hs2 hd
  subst hs1 hs2
  obtain rfl : d = determinant p n := by rw [hd, determinant]; push_cast; rfl
  refine ⟨calculate_of_overRange, calculate_of_lowVoltage, fun hp hn limitP limitN posP posN => ?_⟩
  have passes : PassesRangeAndVoltage limit p n := ⟨hp, hn, limitP, limitN, posP, posN⟩
  rw [calculate_of_passes passes]
  refine ⟨fun unsteady => ?_, fun steady nonpos => ?_, fun qp qn steady pos hqp hqn => ?_⟩
  · rw [if_pos ((lt_eight_mul_absDiff_iff _ _ _).mpr unsteady)]
  · rw [if_neg (not_lt.mpr ((eight_mul_absDiff_le_iff _ _ _).mpr steady)), if_pos nonpos]
  · rw [if_neg (not_lt.mpr ((eight_mul_absDiff_le_iff _ _ _).mpr steady)), if_neg (not_le.mpr pos)]
    exact calculateQuotients_eq g p n _ hqp hqn

/-- Settles O50: every value follows from the range of the divisor f × V_max, since rounding half up and the eighth below
keep the order. -/
theorem thresholdsOfProperties : Obligations.ThresholdsOfProperties := by
  unfold Obligations.ThresholdsOfProperties
  intro v ff wf hv hv' hff _ hw hw'
  have order : ff * v ≤ wf * v := Nat.mul_le_mul_right v hw
  have lo : 5000 ≤ ff * v := Nat.mul_le_mul hff hv
  have hi : wf * v ≤ 7500000 := Nat.mul_le_mul hw' hv'
  have faultRange := divRound_of_divisor_range lo (order.trans hi)
  have warnRange := divRound_of_divisor_range (lo.trans order) hi
  have warnOn : 133333 ≤ onValue wf v := le_onValue_of_divisor_range (lo.trans order) hi
  have onOrder : onValue wf v ≤ onValue ff v := onValue_antitone (by omega) order
  refine ⟨lo, hi, faultRange.2, warnRange.1, thresholdsOf v ff wf, rfl, rfl, rfl, rfl, rfl, warnOn, onOrder,
    onValue_le_gMax ff v, ?_, offValue_mono onOrder, ?_, offValue_add_band warnOn,
    offValue_add_band (warnOn.trans onOrder)⟩
  · exact offValue_mono warnOn
  · exact offValue_mono (onValue_le_gMax ff v)

end Sys2Proof.Machine

/-! # The answer of a frame (R156 to R160) and the change of notice enables (R129, R130, R148) -/

namespace Sys2Proof.Machine

/-! ## The output lines at the close of a frame -/

theorem mem_allSegs (x : SegId) : x ∈ allSegs := by revert x; decide

theorem State.faultCondition_iff (s : State) : s.faultCondition = true ↔ s.FaultHeld := by
  simp [State.faultCondition, State.FaultHeld, mem_allSegs, Option.any_eq_true, Segment.holdsFaultLine]

theorem State.alertCondition_iff (s : State) : s.alertCondition = true ↔ s.AlertHeld := by
  simp [State.alertCondition, State.AlertHeld, mem_allSegs, Option.any_eq_true, Segment.alerts]

@[simp] theorem State.faultHeld_refreshLines (s : State) : s.refreshLines.FaultHeld ↔ s.FaultHeld := by
  simp [State.FaultHeld]

@[simp] theorem State.alertHeld_refreshLines (s : State) : s.refreshLines.AlertHeld ↔ s.AlertHeld := by
  simp [State.AlertHeld]

/-- In a running part with no frame open, the refresh makes both lines follow their conditions (R140, R150). -/
theorem State.refreshLines_follow (s : State) (running : s.running = true) (noFrame : s.port.frameOpen = false) :
    (s.refreshLines.faultLine = true ↔ s.refreshLines.FaultHeld) ∧
    (s.refreshLines.alert = true ↔ s.refreshLines.AlertHeld) := by
  obtain ⟨faultLine, alert⟩ := s.refreshLines_lines running
  rw [faultLine, alert, noFrame, if_neg Bool.false_ne_true, State.faultHeld_refreshLines, State.alertHeld_refreshLines]
  exact ⟨s.faultCondition_iff, s.alertCondition_iff⟩

/-- The close of a frame ends the freeze of ALERT_N (R151). -/
theorem State.closeFrame_lines (s : State) (c : Byte) (r : Reply) (buf sent : List Byte) (running : s.running = true) :
    ((s.closeFrame c r buf sent).faultLine = true ↔ (s.closeFrame c r buf sent).FaultHeld) ∧
    ((s.closeFrame c r buf sent).alert = true ↔ (s.closeFrame c r buf sent).AlertHeld) :=
  State.refreshLines_follow _ running rfl

/-! ## The answer of a frame command -/

theorem State.running_iff (s : State) : s.running = true ↔ s.Running := by
  simp [State.running, State.Running]

/-- The port of a closed frame is the one the statements describe (R155 to R157, R160). -/
theorem State.closeFrame_port_closed (s : State) (code : Byte) (r : Reply) (f : Clocked) :
    (s.closeFrame code r (storedBytes code f) (s.port.shifted (f.bytes.length + 1) f.early)).port =
      s.port.closed f.early (code :: f.bytes) r.status r.payload := by
  rw [State.closeFrame_port]
  cases early : f.early with
  | false => rfl
  | true => rw [Port.shifted_early]; rfl

/-- A frame command of sufficient length completes with what its body answers, where the body leaves the part running and
the port alone (R159, step 4). -/
theorem State.completes_of_body {s u : State} {c : Instr} {code : Byte} {n : Nat} {f : Clocked}
    {body : List Byte → State → Reply × State} {r : Reply}
    (meaning : exec c s = .next (s.riseWith code n f body)) (early : c.early = f.early) (ready : s.Ready)
    (long : n ≤ min 64 (f.bytes.length + 1)) (answer : body (storedBytes code f) s = (r, u))
    (running : u.running = s.running) (port : u.port = s.port) :
    s.Completes c (code :: f.bytes) r.status r.payload u := by
  have up : s.running = true := s.running_iff.mpr ready.1
  rw [State.riseWith_executes s code n f body up ready.2 (by rwa [storedBytes_length]), answer] at meaning
  obtain ⟨faultLine, alert⟩ := u.closeFrame_lines code r (storedBytes code f)
    (s.port.shifted (f.bytes.length + 1) f.early) (running.trans up)
  refine ⟨_, meaning, ?_, faultLine, alert, u.closeFrame_records code r _ _⟩
  rw [early, ← port]
  exact u.closeFrame_port_closed code r f

/-! ## The bytes of a frame and the notice target (R144, R156) -/

/-- The parameter bytes that the receive buffer stores are those of the frame. -/
theorem byteAt_storedBytes (code : Byte) (f : Clocked) {i : Nat} (first : 1 ≤ i) (stored : i < 64) :
    byteAt (storedBytes code f) i = BitVec.ofNat 8 (f.byte i) := by
  obtain ⟨k, rfl⟩ := Nat.exists_eq_add_of_le' first
  have kept : k < 63 := by omega
  simp [byteAt, storedBytes, Config.bufferBytes, Clocked.byte, kept]

theorem noticeTargetOfByte_segment {t : Nat} (x : SegId) (h : t = x.val) :
    noticeTargetOfByte (BitVec.ofNat 8 t) = some (.segment x) := by
  subst h; revert x; decide

theorem noticeTargetOfByte_bad {t : Nat} (above : 15 < t) (below : t < 254) :
    noticeTargetOfByte (BitVec.ofNat 8 t) = none := by
  have noSegment : segOfByte (BitVec.ofNat 8 t) = none := by
    rw [segOfByte, dif_neg]; simp only [BitVec.toNat_ofNat]; omega
  have notAll : BitVec.ofNat 8 t ≠ 0xFF#8 := by bv_omega
  have notDevice : BitVec.ofNat 8 t ≠ 0xFE#8 := by bv_omega
  simp [noticeTargetOfByte, noSegment, notAll, notDevice]

/-! ## The removal of enables from a segment record -/

/-- The model's test of the comparator is that of a WARN bit (R129, R171). -/
theorem warnComparator_iff (e : BitVec 8) : warnComparator e = true ↔ e &&& 0x30#8 ≠ 0#8 := by
  simp [warnComparator, SegNotice.bit]

/-- A removal never enables the comparator. -/
theorem warnComparator_of_remove {e m : BitVec 8} (h : warnComparator (e &&& ~~~m) = true) : warnComparator e = true := by
  rw [warnComparator_iff] at h ⊢
  intro clear
  apply h
  rw [BitVec.and_assoc, BitVec.and_comm (~~~m), ← BitVec.and_assoc, clear, BitVec.zero_and]

/-- A removal has the forced exit of R130 as its only effect on the alarm: the evaluation of R131 needs a comparator that
was disabled and is enabled. -/
theorem Segment.setEnables_remove (g : Segment) (m : BitVec 8) :
    g.setEnables (g.enables &&& ~~~m) =
      { g with
        enables := g.enables &&& ~~~m,
        alarm := if g.enables &&& 0x30#8 ≠ 0#8 ∧ (g.enables &&& ~~~m) &&& 0x30#8 = 0#8 ∧ g.alarm = .warn then .clear
          else g.alarm } := by
  have notEnabled : (!warnComparator g.enables && warnComparator (g.enables &&& ~~~m)) = false := by
    simpa [← Bool.not_eq_true] using mt (@warnComparator_of_remove g.enables m)
  have disabled : (warnComparator g.enables && !warnComparator (g.enables &&& ~~~m)) = true ↔
      g.enables &&& 0x30#8 ≠ 0#8 ∧ (g.enables &&& ~~~m) &&& 0x30#8 = 0#8 := by
    rw [Bool.and_eq_true, Bool.not_eq_true', ← Bool.not_eq_true, warnComparator_iff, warnComparator_iff, not_not]
  simp only [Segment.setEnables, Segment.switchComparator, notEnabled, ← and_assoc, ← disabled]
  by_cases exits : (warnComparator g.enables && !warnComparator (g.enables &&& ~~~m)) = true
  · by_cases warn : g.alarm = .warn <;> simp [exits, warn]
  · simp [exits]

/-! ## The change of enables on its target (R148) -/

section ChangeEnables

variable {f8 : BitVec 8 → BitVec 8} {f4 : BitVec 4 → BitVec 4} {t : Byte} {s : State}

theorem changeEnables_bad (h : noticeTargetOfByte t = none) : changeEnables f8 f4 t s = (Reply.plain .badTarget, s) := by
  simp only [changeEnables, h]

theorem changeEnables_free {x : SegId} (h : noticeTargetOfByte t = some (.segment x)) (free : s.seg x = none) :
    changeEnables f8 f4 t s = (Reply.plain .notDefined, s) := by
  simp only [changeEnables, h, free]

theorem changeEnables_defined {x : SegId} {g : Segment} (h : noticeTargetOfByte t = some (.segment x))
    (held : s.seg x = some g) :
    changeEnables f8 f4 t s = (Reply.plain .ok, s.setSeg x (some (g.setEnables (f8 g.enables)))) := by
  simp only [changeEnables, h, held]

theorem changeEnables_allSegments (h : noticeTargetOfByte t = some .allSegments) :
    changeEnables f8 f4 t s = (Reply.plain .ok, s.mapSegs fun _ g => g.setEnables (f8 g.enables)) := by
  simp only [changeEnables, h]

theorem changeEnables_device (h : noticeTargetOfByte t = some .device) :
    changeEnables f8 f4 t s = (Reply.plain .ok, { s with devEnables := f4 s.devEnables }) := by
  simp only [changeEnables, h]

end ChangeEnables

/-! ## CLEAR NOTICE ENABLES -/

/-- The body of CLEAR NOTICE ENABLES on the frame's own bytes (R148). -/
theorem clearNoticeEnables_storedBytes (f : Clocked) (s : State) :
    clearNoticeEnables (storedBytes 0x41#8 f) s =
      changeEnables (· &&& ~~~(BitVec.ofNat 8 (f.byte 2))) (· &&& ~~~(BitVec.ofNat 4 (f.byte 2)))
        (BitVec.ofNat 8 (f.byte 1)) s := by
  have narrow : (BitVec.ofNat 8 (f.byte 2)).setWidth 4 = BitVec.ofNat 4 (f.byte 2) :=
    BitVec.setWidth_ofNat_of_le (by decide) _
  rw [clearNoticeEnables, byteAt_storedBytes _ f (by decide) (by decide),
    byteAt_storedBytes _ f (by decide) (by decide), narrow]

/-- A CLEAR NOTICE ENABLES over an open frame completes with what the change of enables answers. -/
theorem completes_clearNoticeEnables {f : Clocked} {s u : State} {st : Status} (ready : s.Ready)
    (long : 2 ≤ f.bytes.length)
    (answer : changeEnables (· &&& ~~~(BitVec.ofNat 8 (f.byte 2))) (· &&& ~~~(BitVec.ofNat 4 (f.byte 2)))
      (BitVec.ofNat 8 (f.byte 1)) s = (Reply.plain st, u))
    (running : u.running = s.running) (port : u.port = s.port) :
    s.Completes (.clearNoticeEnables f) (0x41#8 :: f.bytes) st [] u :=
  State.completes_of_body (r := Reply.plain st) rfl rfl ready (by omega)
    ((clearNoticeEnables_storedBytes f s).trans answer) running port

/-- Settles O17: one case per target; on a record the removal is `Segment.setEnables_remove`. -/
theorem clearNoticeEnablesRemoves : Obligations.ClearNoticeEnablesRemoves := by
  unfold Obligations.ClearNoticeEnablesRemoves
  intro f s clear ready long hclear
  have removes (g : Segment) : g.setEnables (g.enables &&& ~~~(BitVec.ofNat 8 (f.byte 2))) = clear g := by
    rw [hclear, Segment.setEnables_remove]
  refine ⟨fun above below => ?_, fun x target => ⟨fun free => ?_, fun g held => ?_⟩, fun target => ?_, fun target => ?_⟩
  · exact completes_clearNoticeEnables ready long (changeEnables_bad (noticeTargetOfByte_bad above below)) rfl rfl
  · exact completes_clearNoticeEnables ready long
      (changeEnables_free (noticeTargetOfByte_segment x target) free) rfl rfl
  · rw [← removes g]
    exact completes_clearNoticeEnables ready long
      (changeEnables_defined (noticeTargetOfByte_segment x target) held) rfl rfl
  · simp only [← removes]
    exact completes_clearNoticeEnables ready long (changeEnables_allSegments (by rw [target]; decide)) rfl rfl
  · exact completes_clearNoticeEnables ready long (changeEnables_device (by rw [target]; decide)) rfl rfl

end Sys2Proof.Machine

/-! # The capture of notices in a response (R145, R163) -/

namespace Sys2Proof.Machine

/-! ## Big-endian fields and bit maps of a payload (R163) -/

@[simp] theorem bigEndian_length (n v : Nat) : (bigEndian n v).length = n := by
  induction n with
  | zero => rfl
  | succ n ih => simp [bigEndian, ih]

/-- Read from an accumulated value on, `n` big-endian bytes shift it up and add the value below 256^n. -/
theorem foldl_bigEndian (n v acc : Nat) :
    (bigEndian n v).foldl (fun w b => 256 * w + b.toNat) acc = acc * 256 ^ n + v % 256 ^ n := by
  induction n generalizing acc with
  | zero => simp [bigEndian, Nat.mod_one]
  | succ n ih =>
    have split : v % 256 ^ (n + 1) = v % 256 ^ n + 256 ^ n * (v / 256 ^ n % 256) := by rw [pow_succ, Nat.mod_mul]
    rw [bigEndian, List.foldl_cons, ih, BitVec.toNat_ofNat, split]
    ring

/-- The field at the end of a payload holds the value that was laid out there. -/
theorem field_append_bigEndian {p : List Byte} {i n v : Nat} (here : p.length = i) (fits : v < 256 ^ n) :
    field (p ++ bigEndian n v) i n = v := by
  rw [field, ← here, List.drop_left, List.take_of_length_le (bigEndian_length n v).le, foldl_bigEndian, Nat.zero_mul,
    Nat.zero_add, Nat.mod_eq_of_lt fits]

theorem flag_eq_toNat (b : Bool) : flag b = b.toNat := by cases b <;> rfl

theorem ofNat_flag (b : Bool) : BitVec.ofNat 8 (flag b) = if b then 1#8 else 0#8 := by cases b <;> rfl

theorem bitMap_cons (b : Bool) (bits : List Bool) : bitMap (b :: bits) = 2 * bitMap bits + b.toNat := by
  rw [← flag_eq_toNat, Nat.add_comm]
  rfl

theorem bitMap_lt (bits : List Bool) : bitMap bits < 2 ^ bits.length := by
  induction bits with
  | nil => decide
  | cons b bits ih =>
    have := b.toNat_le
    rw [bitMap_cons, List.length_cons, pow_succ]
    omega

/-- Bit n of a bit map stands for the n-th entry. -/
theorem testBit_bitMap (bits : List Bool) (i : Nat) : (bitMap bits).testBit i = bits.getD i false := by
  induction bits generalizing i with
  | nil => exact Nat.zero_testBit i
  | cons b bits ih =>
    rw [bitMap_cons]
    cases i with
    | zero => cases b <;> simp [Nat.testBit_zero]
    | succ i =>
      have half : (2 * bitMap bits + b.toNat) / 2 = bitMap bits := by have := b.toNat_le; omega
      rw [Nat.testBit_succ, half, ih, List.getD_cons_succ]

/-! ## The three payloads of READ NOTICES (R145) -/

theorem getElem?_map_allSegs {α : Type} (v : SegId → α) (x : SegId) : (allSegs.map v)[x.val]? = some (v x) := by
  have entry : allSegs[x.val]? = some x := by revert x; decide
  rw [List.getElem?_map, entry, Option.map_some]

/-- Bit x of a bit map over all segments is the flag of segment x. -/
theorem testBit_bitMap_allSegs (v : SegId → Bool) (x : SegId) : (bitMap (allSegs.map v)).testBit x.val = v x := by
  rw [testBit_bitMap, List.getD_eq_getElem?_getD, getElem?_map_allSegs, Option.getD_some]

theorem bitMap_allSegs_lt (v : SegId → Bool) : bitMap (allSegs.map v) < 2 ^ 16 := by
  have below := bitMap_lt (allSegs.map v)
  rwa [List.length_map] at below

theorem Segment.noticePayload_eq (g : Segment) :
    g.noticePayload = [g.pending, if g.repeated then 1#8 else 0#8, g.enables] := by
  simp [Segment.noticePayload, byte, ofNat_flag]

theorem State.deviceNoticePayload_eq (s : State) :
    s.deviceNoticePayload =
      [s.devPending.setWidth 8, if s.devRepeated then 1#8 else 0#8, s.devEnables.setWidth 8] := by
  simp [State.deviceNoticePayload, byte, ofNat_flag, BitVec.ofNat_toNat]

section AllNoticesPayload

variable (s : State)

theorem State.allNoticesPayload_length : s.allNoticesPayload.length = 18 := by
  simp [State.allNoticesPayload, allSegs]

/-- Byte x is the pending set of segment x. -/
theorem State.allNoticesPayload_pending (x : SegId) :
    s.allNoticesPayload[x.val]? = some (((s.seg x).map (·.pending)).getD 0#8) := by
  rw [State.allNoticesPayload, List.getElem?_append_left (by rw [List.length_map]; exact x.isLt), getElem?_map_allSegs]

/-- Bit x of the last two bytes is the repeat flag of segment x. -/
theorem State.allNoticesPayload_repeated (x : SegId) :
    (field s.allNoticesPayload 16 2).testBit x.val = (s.seg x).any (·.repeated) := by
  rw [State.allNoticesPayload, field_append_bigEndian (by rw [List.length_map]; rfl) (bitMap_allSegs_lt _),
    testBit_bitMap_allSegs]

end AllNoticesPayload

/-! ## READ NOTICES on its target -/

section ReadNotices

variable {buf : List Byte} {s : State}

theorem readNotices_bad (h : noticeTargetOfByte (byteAt buf 1) = none) :
    readNotices buf s = (Reply.plain .badTarget, s) := by
  simp only [readNotices, h]

theorem readNotices_free {x : SegId} (h : noticeTargetOfByte (byteAt buf 1) = some (.segment x))
    (free : s.seg x = none) : readNotices buf s = (Reply.plain .notDefined, s) := by
  simp only [readNotices, h, free]

theorem readNotices_defined {x : SegId} {g : Segment} (h : noticeTargetOfByte (byteAt buf 1) = some (.segment x))
    (held : s.seg x = some g) :
    readNotices buf s = (Reply.read g.noticePayload, s.setSeg x (some g.clearNotices)) := by
  simp only [readNotices, h, held]

theorem readNotices_allSegments (h : noticeTargetOfByte (byteAt buf 1) = some .allSegments) :
    readNotices buf s = (Reply.read s.allNoticesPayload, s.mapSegs fun _ g => g.clearNotices) := by
  simp only [readNotices, h]

theorem readNotices_device (h : noticeTargetOfByte (byteAt buf 1) = some .device) :
    readNotices buf s = (Reply.read s.deviceNoticePayload, { s with devPending := 0#4, devRepeated := false }) := by
  simp only [readNotices, h]

end ReadNotices

/-- A READ NOTICES over an open frame completes with what its body answers. -/
theorem completes_readNotices {f : Clocked} {s u : State} {r : Reply} (ready : s.Ready) (long : 1 ≤ f.bytes.length)
    (answer : readNotices (storedBytes 0x15#8 f) s = (r, u)) (running : u.running = s.running)
    (port : u.port = s.port) : s.Completes (.readNotices f) (0x15#8 :: f.bytes) r.status r.payload u :=
  State.completes_of_body rfl rfl ready (by omega) answer running port

/-- Settles O15: one case per target; the three payloads are read off by their own lemmas. -/
theorem readNoticesCapturesAndClears : Obligations.ReadNoticesCapturesAndClears := by
  unfold Obligations.ReadNoticesCapturesAndClears
  intro f s ready long
  have byte1 : byteAt (storedBytes 0x15#8 f) 1 = BitVec.ofNat 8 (f.byte 1) :=
    byteAt_storedBytes _ f (by decide) (by decide)
  refine ⟨fun above below => ?_, fun x target => ⟨fun free => ?_, fun g held => ?_⟩, fun target => ?_, fun target => ?_⟩
  · have bad := byte1 ▸ noticeTargetOfByte_bad above below
    exact completes_readNotices ready long (readNotices_bad bad) rfl rfl
  · have segment := byte1 ▸ noticeTargetOfByte_segment x target
    exact completes_readNotices ready long (readNotices_free segment free) rfl rfl
  · have segment := byte1 ▸ noticeTargetOfByte_segment x target
    rw [← g.noticePayload_eq]
    exact completes_readNotices ready long (readNotices_defined segment held) rfl rfl
  · have all : noticeTargetOfByte (byteAt (storedBytes 0x15#8 f) 1) = some .allSegments := by rw [byte1, target]; decide
    exact ⟨s.allNoticesPayload, completes_readNotices ready long (readNotices_allSegments all) rfl rfl,
      s.allNoticesPayload_length, s.allNoticesPayload_pending, s.allNoticesPayload_repeated⟩
  · have device : noticeTargetOfByte (byteAt (storedBytes 0x15#8 f) 1) = some .device := by rw [byte1, target]; decide
    rw [← s.deviceNoticePayload_eq]
    exact completes_readNotices ready long (readNotices_device device) rfl rfl

end Sys2Proof.Machine

/-! # NO OPERATION and READ SUMMARY (R163 to R165) -/

namespace Sys2Proof.Machine

/-! ## NO OPERATION -/

/-- Settles O6: the body answers OK on the unchanged state, and the port's own handling does the rest. -/
theorem noOperation : Obligations.NoOperation := by
  unfold Obligations.NoOperation
  intro f s ready long
  exact State.completes_of_body (body := fun _ t => (Reply.plain .ok, t)) (r := Reply.plain .ok) rfl rfl ready
    (by omega) rfl rfl rfl

/-! ## A payload as a list of fields (R163) -/

/-- The bytes of fields laid out one after the other, each given by its width in bytes and its value. -/
def layOut (fields : List (Nat × Nat)) : List Byte := fields.flatMap fun q => bigEndian q.1 q.2

/-- The bytes that the fields take together. -/
def layOutWidth (fields : List (Nat × Nat)) : Nat := (fields.map Prod.fst).sum

theorem layOut_cons (q : Nat × Nat) (fields : List (Nat × Nat)) :
    layOut (q :: fields) = bigEndian q.1 q.2 ++ layOut fields := List.flatMap_cons

theorem layOut_length (fields : List (Nat × Nat)) : (layOut fields).length = layOutWidth fields := by
  simp [layOut, layOutWidth, List.length_flatMap]

/-- The first field of a payload holds its value, as far as it fits. -/
theorem field_bigEndian_append (n v : Nat) (rest : List Byte) : field (bigEndian n v ++ rest) 0 n = v % 256 ^ n := by
  have first : (bigEndian n v ++ rest).take n = bigEndian n v := List.take_left' (bigEndian_length n v)
  rw [field, List.drop_zero, first, foldl_bigEndian, Nat.zero_mul, Nat.zero_add]

/-- A field behind the first bytes of a payload is one of the rest. -/
theorem field_append_skip (p q : List Byte) (i n : Nat) : field (p ++ q) (p.length + i) n = field q i n := by
  rw [field, field, List.drop_length_add_append]

/-- Field k lies behind the widths of the fields before it and holds its value, as far as it fits. -/
theorem field_layOut (fields : List (Nat × Nat)) (k : Nat) (n v : Nat) (entry : fields[k]? = some (n, v)) :
    field (layOut fields) (layOutWidth (fields.take k)) n = v % 256 ^ n := by
  induction fields generalizing k with
  | nil => simp at entry
  | cons q fields ih =>
    rw [layOut_cons]
    cases k with
    | zero =>
      obtain rfl : q = (n, v) := by simpa using entry
      exact field_bigEndian_append n v _
    | succ k =>
      have behind : layOutWidth ((q :: fields).take (k + 1)) =
          (bigEndian q.1 q.2).length + layOutWidth (fields.take k) := by simp [layOutWidth]
      rw [behind, field_append_skip]
      exact ih k (by simpa using entry)

/-- A field wide enough for a bit map holds it as it is. -/
theorem field_layOut_bitMap (fields : List (Nat × Nat)) (k : Nat) (n : Nat) (bits : List Bool)
    (entry : fields[k]? = some (n, bitMap bits)) (wide : bits.length ≤ 8 * n) :
    field (layOut fields) (layOutWidth (fields.take k)) n = bitMap bits := by
  have fits : bitMap bits < 256 ^ n := calc
    bitMap bits < 2 ^ bits.length := bitMap_lt bits
    _ ≤ 2 ^ (8 * n) := Nat.pow_le_pow_right (by decide) wide
    _ = 256 ^ n := Nat.pow_mul 2 8 n
  rw [field_layOut fields k n _ entry, Nat.mod_eq_of_lt fits]

/-! ## The bit maps of READ SUMMARY -/

/-- Bit l of a bit map over all links is the flag of link l. -/
theorem testBit_bitMap_allLinks (v : LinkId → Bool) (l : LinkId) : (bitMap (allLinks.map v)).testBit l.val = v l := by
  have entry : allLinks[l.val]? = some l := by revert l; decide
  rw [testBit_bitMap, List.getD_eq_getElem?_getD, List.getElem?_map, entry, Option.map_some, Option.getD_some]

/-- The filtered levels of AUX0 to AUX11 and of EXT0 and EXT1, in the order of their bits (R165). -/
def State.lineLevels (s : State) : List Bool := (s.aux.toList ++ s.ext.toList).map (·.level)

theorem State.lineLevels_length (s : State) : s.lineLevels.length = 14 := by simp [State.lineLevels]

theorem State.testBit_lineLevels_aux (s : State) (i : AuxLine) :
    (bitMap s.lineLevels).testBit i.val = (s.aux[i]).level := by
  rw [testBit_bitMap, List.getD_eq_getElem?_getD, State.lineLevels, List.getElem?_map,
    List.getElem?_append_left (by simp)]
  simp

theorem State.testBit_lineLevels_ext (s : State) (i : ExtLine) :
    (bitMap s.lineLevels).testBit (12 + i.val) = (s.ext[i]).level := by
  rw [testBit_bitMap, List.getD_eq_getElem?_getD, State.lineLevels, List.getElem?_map,
    List.getElem?_append_right (by simp)]
  simp [Vector.getElem?_eq_getElem i.isLt]

/-- The unused bits above the 14 lines are 0. -/
theorem State.bitMap_lineLevels_lt (s : State) : bitMap s.lineLevels < 2 ^ 14 :=
  s.lineLevels_length ▸ bitMap_lt s.lineLevels

/-! ## The payload of READ SUMMARY -/

/-- The 13 fields of READ SUMMARY in their order (R165). -/
def State.summaryFields (s : State) : List (Nat × Nat) :=
  [(4, s.uptime.toNat), (1, s.summaryByte.toNat), (2, bitMap (allSegs.map fun x => (s.seg x).isSome)),
    (3, bitMap (allLinks.map fun l => (s.link l).isSome)), (2, s.timing.minDwell), (2, s.timing.maxDwell),
    (2, s.timing.epsilon), (2, s.timing.spacing), (2, s.timing.quiet), (2, s.timing.debounce), (2, s.timing.agreement),
    (2, s.timing.lowVoltage), (2, bitMap s.lineLevels)]

theorem State.summaryPayload_eq (s : State) : s.summaryPayload = layOut s.summaryFields := by
  have oneByte (b : Byte) : bigEndian 1 b.toNat = [b] := by simp [bigEndian]
  simp [State.summaryPayload, Timing.bytes, layOut, State.summaryFields, State.lineLevels, oneByte]

theorem State.summaryPayload_length (s : State) : s.summaryPayload.length = 28 := by
  rw [s.summaryPayload_eq, layOut_length]
  rfl

/-- The numbers of a READ SUMMARY, by the place of their field. -/
theorem State.field_summaryPayload (s : State) (k n v : Nat) (entry : s.summaryFields[k]? = some (n, v)) :
    field s.summaryPayload (layOutWidth (s.summaryFields.take k)) n = v % 256 ^ n :=
  s.summaryPayload_eq ▸ field_layOut s.summaryFields k n v entry

/-- The bit maps of a READ SUMMARY, by the place of their field. -/
theorem State.field_summaryPayload_bitMap (s : State) (k n : Nat) (bits : List Bool)
    (entry : s.summaryFields[k]? = some (n, bitMap bits)) (wide : bits.length ≤ 8 * n) :
    field s.summaryPayload (layOutWidth (s.summaryFields.take k)) n = bitMap bits :=
  s.summaryPayload_eq ▸ field_layOut_bitMap s.summaryFields k n bits entry wide

/-- Settles O9: the body answers the payload of the state before the slot is replaced, and each value is the field at
its place in `State.summaryFields`. -/
theorem readSummaryReports : Obligations.ReadSummaryReports := by
  unfold Obligations.ReadSummaryReports
  intro f s ready long
  have completes : s.Completes (.readSummary f) (0x10#8 :: f.bytes) .ok s.summaryPayload s :=
    State.completes_of_body (body := fun _ t => (Reply.read t.summaryPayload, t)) (r := Reply.read s.summaryPayload)
      rfl rfl ready (by omega) rfl rfl rfl
  have uptime : field s.summaryPayload 0 4 = s.uptime.toNat :=
    (s.field_summaryPayload 0 4 _ rfl).trans (Nat.mod_eq_of_lt s.uptime.isLt)
  have secondSummaryByte : s.summaryPayload[4]? = some s.summaryByte := rfl
  have segments : field s.summaryPayload 5 2 = bitMap (allSegs.map fun x => (s.seg x).isSome) :=
    s.field_summaryPayload_bitMap 2 2 _ rfl (by rw [List.length_map]; decide)
  have links : field s.summaryPayload 7 3 = bitMap (allLinks.map fun l => (s.link l).isSome) :=
    s.field_summaryPayload_bitMap 3 3 _ rfl (by rw [List.length_map]; decide)
  have lines : field s.summaryPayload 26 2 = bitMap s.lineLevels :=
    s.field_summaryPayload_bitMap 12 2 _ rfl (by rw [s.lineLevels_length]; decide)
  refine ⟨s.summaryPayload, completes, s.summaryPayload_length, uptime, secondSummaryByte, ?_, ?_,
    s.field_summaryPayload 4 2 _ rfl, s.field_summaryPayload 5 2 _ rfl, s.field_summaryPayload 6 2 _ rfl,
    s.field_summaryPayload 7 2 _ rfl, s.field_summaryPayload 8 2 _ rfl, s.field_summaryPayload 9 2 _ rfl,
    s.field_summaryPayload 10 2 _ rfl, s.field_summaryPayload 11 2 _ rfl, ?_, ?_, ?_⟩
  · rw [segments]
    exact testBit_bitMap_allSegs _
  · rw [links]
    exact testBit_bitMap_allLinks _
  · rw [lines]
    exact s.testBit_lineLevels_aux
  · rw [lines]
    exact s.testBit_lineLevels_ext
  · rw [lines]
    exact s.bitMap_lineLevels_lt

end Sys2Proof.Machine

/-! # What a command can do: its meaning, and the effect of an accepted frame or a taken event (R159, R162) -/

namespace Sys2Proof.Machine

/-! ## The meanings, frame by frame and event by event -/

/-- The expiry of a net's dwell timer: the granted bridge leaves DWELL (R83). -/
def State.takeDwell (s : State) (a : SegId) : State :=
  match s.dwellDue a with
  | some b => s.modBridge b (·.endDwell s.uptime)
  | none => s

/-- The expiry of a net's max-dwell timer: its phase ends as unsettled (R86). -/
def State.takeMaxDwell (s : State) (a : SegId) : State :=
  match s.maxDwellDue a with
  | some n => s.endPhase n true
  | none => s

/-- The expiry of a net's quiet timer, with the test it makes (R51). -/
def State.takeQuiet (s : State) (a : SegId) : State :=
  (s.modNet a fun n => { n with quiet := n.quiet.map fun q => { q with expired := true } }).testWaiting a

/-- The commands that end a frame with a listed code: the code, the command length and the body (R159, step 4). -/
inductive Commands : Instr → Byte → Nat → Clocked → (List Byte → State → Reply × State) → Prop where
  | noOperation (f : Clocked) : Commands (.noOperation f) 0x00#8 2 f fun _ t => (Reply.plain .ok, t)
  | readSummary (f : Clocked) : Commands (.readSummary f) 0x10#8 2 f fun _ t => (Reply.read t.summaryPayload, t)
  | readSegment (f : Clocked) : Commands (.readSegment f) 0x11#8 2 f Machine.readSegment
  | readNet (f : Clocked) : Commands (.readNet f) 0x12#8 2 f Machine.readNet
  | readLink (f : Clocked) : Commands (.readLink f) 0x13#8 2 f Machine.readLink
  | readBridge (f : Clocked) : Commands (.readBridge f) 0x14#8 2 f Machine.readBridge
  | readNotices (f : Clocked) : Commands (.readNotices f) 0x15#8 2 f Machine.readNotices
  | readTrim (f : Clocked) : Commands (.readTrim f) 0x16#8 2 f Machine.readTrim
  | defineSegment (f : Clocked) : Commands (.defineSegment f) 0x20#8 12 f Machine.defineSegment
  | amendSegment (f : Clocked) : Commands (.amendSegment f) 0x21#8 12 f Machine.amendSegment
  | retireSegment (f : Clocked) : Commands (.retireSegment f) 0x22#8 2 f Machine.retireSegment
  | clearLowMark (f : Clocked) : Commands (.clearLowMark f) 0x23#8 2 f Machine.clearLowMark
  | acknowledgeFault (f : Clocked) : Commands (.acknowledgeFault f) 0x24#8 2 f Machine.acknowledgeFault
  | spotCheck (f : Clocked) : Commands (.spotCheck f) 0x28#8 2 f Machine.spotCheck
  | defineLink (f : Clocked) : Commands (.defineLink f) 0x30#8 8 f Machine.defineLink
  | retireLink (f : Clocked) : Commands (.retireLink f) 0x31#8 2 f Machine.retireLink
  | declareLink (f : Clocked) : Commands (.declareLink f) 0x32#8 3 f Machine.declareLink
  | attachBridge (f : Clocked) : Commands (.attachBridge f) 0x38#8 3 f Machine.attachBridge
  | detachBridge (f : Clocked) : Commands (.detachBridge f) 0x39#8 2 f Machine.detachBridge
  | resetBridge (f : Clocked) : Commands (.resetBridge f) 0x3A#8 2 f Machine.resetBridge
  | setNoticeEnables (f : Clocked) : Commands (.setNoticeEnables f) 0x40#8 3 f Machine.setNoticeEnables
  | clearNoticeEnables (f : Clocked) : Commands (.clearNoticeEnables f) 0x41#8 3 f Machine.clearNoticeEnables
  | setTiming (f : Clocked) : Commands (.setTiming f) 0x50#8 18 f Machine.setTiming
  | restart (f : Clocked) (raw : RawContacts) :
      Commands (.restart f raw) 0x5A#8 2 f fun _ t => (Reply.plain .ok, t.restart raw)

/-- The events of the part that wait for their moment: when each is due, and its effect. -/
inductive Occurs (s : State) : Instr → Bool → (State → State) → Prop where
  | filteredChangeAux (i : AuxLine) : Occurs s (.filteredChangeAux i) (s.aux[i]).due (·.changeAux i)
  | filteredChangeExt (i : ExtLine) : Occurs s (.filteredChangeExt i) (s.ext[i]).due (·.changeExt i)
  | agreementWindowExpiry (i : LinkId) :
      Occurs s (.agreementWindowExpiry i) ((s.link i).any fun l => l.windowOver s.uptime s.timing.agreement)
        (·.flagDisagreement i)
  | expiry (x : SegId) :
      Occurs s (.expiry x) ((s.seg x).any (·.expiryReached s.uptime)) (·.modSeg x Segment.goStale)
  | sampleEvent (b : BridgeId) (p n : BitVec 16) :
      Occurs s (.sampleEvent b p n) ((s.bridge b).cause != some .trim) (·.sampleBridge b p n)
  | dwellTimerExpiry (a : SegId) : Occurs s (.dwellTimerExpiry a) (s.dwellDue a).isSome (·.takeDwell a)
  | maxDwellTimerExpiry (a : SegId) : Occurs s (.maxDwellTimerExpiry a) (s.maxDwellDue a).isSome (·.takeMaxDwell a)
  | quietTimerExpiry (a : SegId) :
      Occurs s (.quietTimerExpiry a) ((s.netAt a).any (·.quietDue s.uptime)) (·.takeQuiet a)
  | spacingExpiry (a : SegId) :
      Occurs s (.spacingExpiry a) ((s.netAt a).any (·.spacingDue s.uptime)) (·.startCycle a)
  | closeConfirmation (b : BridgeId) :
      Occurs s (.closeConfirmation b) (s.bridge b).closeConfirmed
        fun t => (t.modBridge b (·.enter .dwell t.uptime)).reportConfirmation b
  | openConfirmation (b : BridgeId) : Occurs s (.openConfirmation b) (s.bridge b).openConfirmed (·.confirmOpen b)
  | closeTimeout (b : BridgeId) :
      Occurs s (.closeTimeout b) (s.bridge b).closeTimedOut (·.faultBridge b .closeTimeout)
  | openTimeout (b : BridgeId) : Occurs s (.openTimeout b) (s.bridge b).openTimedOut (·.faultBridge b .openTimeout)
  | senseDropout (b : BridgeId) : Occurs s (.senseDropout b) (s.bridge b).droppedOut (·.faultBridge b .closeTimeout)
  | stuckOppositeSense (b : BridgeId) :
      Occurs s (.stuckOppositeSense b) (s.bridge b).oppositeStuck (·.faultBridge b .stuck)
  | stuckInParked (b : BridgeId) : Occurs s (.stuckInParked b) (s.bridge b).parkedStuck (·.faultBridge b .stuck)
  | stuckEscalation (b : BridgeId) : Occurs s (.stuckEscalation b) (s.bridge b).escalates (·.faultBridge b .stuck)

section Meanings

variable {c : Instr} {code : Byte} {n : Nat} {f : Clocked} {body : List Byte → State → Reply × State} {s t : State}

theorem Commands.exec (h : Commands c code n f body) (s : State) : exec c s = .next (s.riseWith code n f body) := by
  cases h <;> rfl

theorem Commands.frameOf (h : Commands c code n f body) : frameOf c = some (code :: f.bytes, f.tail, f.early) := by
  cases h <;> rfl

theorem Commands.early (h : Commands c code n f body) : c.early = f.early := by
  cases h <;> rfl

theorem Commands.commandLength (h : Commands c code n f body) : commandLength code = some n := by
  cases h <;> rfl

theorem Occurs.exec {due : Bool} {effect : State → State} (h : Occurs s c due effect) :
    exec c s = .next (s.event due effect) := by
  cases h <;> rfl

theorem Occurs.frameOf {due : Bool} {effect : State → State} (h : Occurs s c due effect) : frameOf c = none := by
  cases h <;> rfl

end Meanings

/-- The rows that are neither a frame with a listed code nor an event that waits for its moment. -/
inductive OwnRow : Instr → Prop where
  | chipSelectFall : OwnRow .chipSelectFall
  | unknownCommand (code : Option Byte) (f : Clocked) : OwnRow (.unknownCommand code f)
  | uptimeAdvance (raw : RawLevels) : OwnRow (.uptimeAdvance raw)
  | powerOnReset (raw : RawContacts) : OwnRow (.powerOnReset raw)
  | pinReset : OwnRow .pinReset
  | resetNRise (raw : RawContacts) : OwnRow (.resetNRise raw)
  | powerOnResetStart : OwnRow .powerOnResetStart

/-- Every row is a frame's command, an event that waits for its moment, or one with a meaning of its own. -/
theorem instr_meaning (c : Instr) (s : State) :
    (∃ code n f body, Commands c code n f body) ∨ (∃ due effect, Occurs s c due effect) ∨ OwnRow c := by
  cases c with
  | chipSelectFall => exact .inr (.inr .chipSelectFall)
  | unknownCommand code f => exact .inr (.inr (.unknownCommand code f))
  | noOperation f => exact .inl ⟨_, _, _, _, .noOperation f⟩
  | readSummary f => exact .inl ⟨_, _, _, _, .readSummary f⟩
  | readSegment f => exact .inl ⟨_, _, _, _, .readSegment f⟩
  | readNet f => exact .inl ⟨_, _, _, _, .readNet f⟩
  | readLink f => exact .inl ⟨_, _, _, _, .readLink f⟩
  | readBridge f => exact .inl ⟨_, _, _, _, .readBridge f⟩
  | readNotices f => exact .inl ⟨_, _, _, _, .readNotices f⟩
  | readTrim f => exact .inl ⟨_, _, _, _, .readTrim f⟩
  | defineSegment f => exact .inl ⟨_, _, _, _, .defineSegment f⟩
  | amendSegment f => exact .inl ⟨_, _, _, _, .amendSegment f⟩
  | retireSegment f => exact .inl ⟨_, _, _, _, .retireSegment f⟩
  | clearLowMark f => exact .inl ⟨_, _, _, _, .clearLowMark f⟩
  | acknowledgeFault f => exact .inl ⟨_, _, _, _, .acknowledgeFault f⟩
  | spotCheck f => exact .inl ⟨_, _, _, _, .spotCheck f⟩
  | defineLink f => exact .inl ⟨_, _, _, _, .defineLink f⟩
  | retireLink f => exact .inl ⟨_, _, _, _, .retireLink f⟩
  | declareLink f => exact .inl ⟨_, _, _, _, .declareLink f⟩
  | attachBridge f => exact .inl ⟨_, _, _, _, .attachBridge f⟩
  | detachBridge f => exact .inl ⟨_, _, _, _, .detachBridge f⟩
  | resetBridge f => exact .inl ⟨_, _, _, _, .resetBridge f⟩
  | setNoticeEnables f => exact .inl ⟨_, _, _, _, .setNoticeEnables f⟩
  | clearNoticeEnables f => exact .inl ⟨_, _, _, _, .clearNoticeEnables f⟩
  | setTiming f => exact .inl ⟨_, _, _, _, .setTiming f⟩
  | restart f raw => exact .inl ⟨_, _, _, _, .restart f raw⟩
  | powerOnReset raw => exact .inr (.inr (.powerOnReset raw))
  | pinReset => exact .inr (.inr .pinReset)
  | resetNRise raw => exact .inr (.inr (.resetNRise raw))
  | uptimeAdvance raw => exact .inr (.inr (.uptimeAdvance raw))
  | filteredChangeAux i => exact .inr (.inl ⟨_, _, .filteredChangeAux i⟩)
  | filteredChangeExt i => exact .inr (.inl ⟨_, _, .filteredChangeExt i⟩)
  | agreementWindowExpiry i => exact .inr (.inl ⟨_, _, .agreementWindowExpiry i⟩)
  | expiry x => exact .inr (.inl ⟨_, _, .expiry x⟩)
  | sampleEvent b p n => exact .inr (.inl ⟨_, _, .sampleEvent b p n⟩)
  | dwellTimerExpiry a => exact .inr (.inl ⟨_, _, .dwellTimerExpiry a⟩)
  | maxDwellTimerExpiry a => exact .inr (.inl ⟨_, _, .maxDwellTimerExpiry a⟩)
  | quietTimerExpiry a => exact .inr (.inl ⟨_, _, .quietTimerExpiry a⟩)
  | spacingExpiry a => exact .inr (.inl ⟨_, _, .spacingExpiry a⟩)
  | closeConfirmation b => exact .inr (.inl ⟨_, _, .closeConfirmation b⟩)
  | closeTimeout b => exact .inr (.inl ⟨_, _, .closeTimeout b⟩)
  | openConfirmation b => exact .inr (.inl ⟨_, _, .openConfirmation b⟩)
  | openTimeout b => exact .inr (.inl ⟨_, _, .openTimeout b⟩)
  | senseDropout b => exact .inr (.inl ⟨_, _, .senseDropout b⟩)
  | stuckOppositeSense b => exact .inr (.inl ⟨_, _, .stuckOppositeSense b⟩)
  | stuckInParked b => exact .inr (.inl ⟨_, _, .stuckInParked b⟩)
  | stuckEscalation b => exact .inr (.inl ⟨_, _, .stuckEscalation b⟩)
  | powerOnResetStart => exact .inr (.inr .powerOnResetStart)

/-! ## What an accepted frame does -/

/-- The detachment of the bridge a segment record holds, if it holds one (R18). -/
def State.detachHeld (s : State) (b : Option BridgeId) : State :=
  match b with
  | some b => s.detach b
  | none => s

/-- An accepted AMEND SEGMENT with clamped properties: the record, the topology event of a changed source, and the
consequence of a changed validity (R6 to R10). -/
def State.amend (s : State) (x : SegId) (g : Segment) (d : Declared) (src : Source) (latch drive : Bool) : State :=
  let t := s.setSeg x (some (g.amend d src latch drive))
  let t := if src = g.source then t else t.recompute
  if d.validity = g.validity then t else t.modSeg x (·.reschedule s.uptime)

/-- The two sides of an attachment cleared (R77). -/
def State.unattach (s : State) (b : BridgeId) (x : SegId) : State :=
  (s.modBridge b fun r => { r with attached := none }).modSeg x fun g => { g with bridge := none }

/-- A state with a link record replaced, and the recompute behind it where the effective states make a topology event
(R26). -/
def State.relink (s : State) (i : LinkId) (r : Option Link) (event : Bool) : State :=
  if event then (s.setLink i r).recompute else s.setLink i r

/-- The changes of state that an accepted frame can make, with what its checks have found. -/
inductive Accepts (s : State) : State → Prop where
  | clearNotices (x : SegId) (g : Segment) (held : s.seg x = some g) : Accepts s (s.setSeg x (some g.clearNotices))
  | clearAllNotices : Accepts s (s.mapSegs fun _ g => g.clearNotices)
  | clearDeviceNotices : Accepts s { s with devPending := 0#4, devRepeated := false }
  | setEnables (x : SegId) (g : Segment) (e : BitVec 8) (held : s.seg x = some g) :
      Accepts s (s.setSeg x (some (g.setEnables e)))
  | setAllEnables (f8 : BitVec 8 → BitVec 8) : Accepts s (s.mapSegs fun _ g => g.setEnables (f8 g.enables))
  | setDeviceEnables (e : BitVec 4) : Accepts s { s with devEnables := e }
  | setTiming (t : Timing) : Accepts s { s with timing := t.clamp }
  | restart (raw : RawContacts) : Accepts s (s.restart raw)
  | defineSegment (x : SegId) (d : Declared) (src : Source) (latch drive : Bool) (free : s.seg x = none) :
      Accepts s (s.setSeg x (some (Segment.define d.clamp src latch drive s.uptime))).recompute
  | amendSegment (x : SegId) (g : Segment) (d : Declared) (src : Source) (latch drive : Bool)
      (held : s.seg x = some g) : Accepts s (s.amend x g d.clamp src latch drive)
  | retireSegment (x : SegId) (g : Segment) (held : s.seg x = some g) (unlinked : s.linked x = false) :
      Accepts s (((s.detachHeld g.bridge).setSeg x none).recompute)
  | clearLowMark (x : SegId) (g : Segment) (held : s.seg x = some g) : Accepts s (s.setSeg x (some g.restartMark))
  | acknowledgeFault (x : SegId) (g : Segment) (held : s.seg x = some g) (latched : g.latched = true)
      (cleared : s.faultCleared x g = true) : Accepts s (s.setSeg x (some g.acknowledged))
  | requestSpot (x : SegId) (g : Segment) (held : s.seg x = some g)
      (measurable : ∀ n, s.netOf x = some n → n.state ≠ .external ∧ n.state ≠ .unmeasurable) :
      Accepts s (s.setSeg x (some (g.requestSpot s.uptime)))
  | startSpot (x : SegId) (g : Segment) (n : Net) (held : s.seg x = some g) (net : s.netOf x = some n)
      (rest : n.state = .rest) (notPending : n.startPending = false) :
      Accepts s ((s.setSeg x (some (g.requestSpot s.uptime))).startCycle n.anchor)
  | defineLink (i : LinkId) (a b : SegId) (m : LinkMode) (sensor : Option (AuxLine × Polarity)) (d : Contact) (l : Link)
      (free : s.link i = none) (endA : (s.seg a).isSome) (endB : (s.seg b).isSome) (distinct : a ≠ b)
      (sensing : m = .declared ↔ sensor = none)
      (record : l = Link.define a b m sensor (sensor.any fun p => s.auxLevel p.1) d s.uptime) :
      Accepts s (s.relink i (some l) (decide (l.effective = .closed)))
  | retireLink (i : LinkId) (l : Link) (held : s.link i = some l) :
      Accepts s (s.relink i none (decide (l.effective = .closed)))
  | declareLink (i : LinkId) (l r : Link) (d : Contact) (held : s.link i = some l) (mode : l.mode ≠ .sensed)
      (changed : d ≠ l.declared) (record : r = ({ l with declared := d } : Link).deriveEffective.judge s.uptime) :
      Accepts s (s.relink i (some r) (decide (r.effective ≠ l.effective)))
  | attachBridge (b : BridgeId) (x : SegId) (g : Segment) (held : s.seg x = some g)
      (freeBridge : (s.bridge b).attached = none) (freeSegment : g.bridge = none) : Accepts s (s.attach b x).recompute
  | detachBridge (b : BridgeId) (x : SegId) (held : (s.bridge b).attached = some x) :
      Accepts s (s.unattach b x).recompute
  | resetBridge (b : BridgeId) (faulted : (s.bridge b).state = .faulted) (cause : (s.bridge b).cause ≠ some .trim) :
      Accepts s (s.modBridge b (·.returned s.uptime)).recompute

/-- What a body may do with the state: nothing, or with status OK or CLAMPED what an accepted frame does (R162). -/
def Answers (s : State) (a : Reply × State) : Prop :=
  a.2 = s ∨ (a.1.status.completed = true ∧ Accepts s a.2)

section Bodies

variable (buf : List Byte) (s : State)

theorem completed_clampStatus (changed : Bool) : (clampStatus changed).completed = true := by cases changed <;> rfl

theorem Answers.unchanged {s : State} (r : Reply) : Answers s (r, s) := .inl rfl

theorem Answers.ok {s t : State} {r : Reply} (h : Accepts s t) (status : r.status.completed = true := by rfl) :
    Answers s (r, t) :=
  .inr ⟨status, h⟩

theorem readSegment_answers : Answers s (readSegment buf s) := by
  unfold readSegment
  split
  · exact .unchanged _
  · split <;> exact .unchanged _

theorem readNet_answers : Answers s (readNet buf s) := by
  unfold readNet
  split
  · exact .unchanged _
  · split <;> exact .unchanged _

theorem readLink_answers : Answers s (readLink buf s) := by
  unfold readLink
  split
  · exact .unchanged _
  · split <;> exact .unchanged _

theorem readBridge_answers : Answers s (readBridge buf s) := by
  unfold readBridge
  split <;> exact .unchanged _

theorem readTrim_answers : Answers s (readTrim buf s) := by
  unfold readTrim
  split <;> exact .unchanged _

theorem readNotices_answers : Answers s (readNotices buf s) := by
  unfold readNotices
  split
  · exact .unchanged _
  · split
    · exact .unchanged _
    · next g held => exact .ok (.clearNotices _ g held)
  · exact .ok .clearAllNotices
  · exact .ok .clearDeviceNotices

theorem changeEnables_answers (f8 : BitVec 8 → BitVec 8) (f4 : BitVec 4 → BitVec 4) (target : Byte) :
    Answers s (changeEnables f8 f4 target s) := by
  unfold changeEnables
  split
  · exact .unchanged _
  · split
    · exact .unchanged _
    · next g held => exact .ok (.setEnables _ g _ held)
  · exact .ok (.setAllEnables f8)
  · exact .ok (.setDeviceEnables _)

theorem setTiming_answers : Answers s (setTiming buf s) :=
  .ok (.setTiming (timingAt buf)) (completed_clampStatus _)

theorem defineSegment_answers : Answers s (defineSegment buf s) := by
  unfold defineSegment
  split
  · exact .unchanged _
  · split
    · exact .unchanged _
    · next free =>
      split
      · exact .unchanged _
      · exact .ok (.defineSegment _ _ _ _ _ free) (completed_clampStatus _)

theorem amendSegment_answers : Answers s (amendSegment buf s) := by
  unfold amendSegment
  split
  · exact .unchanged _
  · split
    · exact .unchanged _
    · next g held =>
      split
      · exact .unchanged _
      · exact .ok (.amendSegment _ g _ _ _ _ held) (completed_clampStatus _)

theorem retireSegment_answers : Answers s (retireSegment buf s) := by
  unfold retireSegment
  split
  · exact .unchanged _
  · split
    · exact .unchanged _
    · next g held =>
      split
      · exact .unchanged _
      · next unlinked => exact .ok (.retireSegment _ g held (Bool.not_eq_true _ ▸ unlinked))

theorem clearLowMark_answers : Answers s (clearLowMark buf s) := by
  unfold clearLowMark
  split
  · exact .unchanged _
  · split
    · exact .unchanged _
    · next g held => exact .ok (.clearLowMark _ g held)

theorem acknowledgeFault_answers : Answers s (acknowledgeFault buf s) := by
  unfold acknowledgeFault
  split
  · exact .unchanged _
  · split
    · exact .unchanged _
    · next g held =>
      split
      · exact .unchanged _
      · next latched =>
        split
        · exact .unchanged _
        · next cleared => exact .ok (.acknowledgeFault _ g held (by simpa using latched) (by simpa using cleared))

theorem spotCheck_answers : Answers s (spotCheck buf s) := by
  unfold spotCheck
  split
  · exact .unchanged _
  · split
    · exact .unchanged _
    · next x _ _ g held =>
      dsimp only
      split
      · next noNet => exact .ok (.requestSpot x g held (by simp [noNet]))
      · next n net =>
        cases state : n.state with
        | external | unmeasurable => exact .unchanged _
        | rest =>
          cases pending : n.startPending with
          | false => exact .ok (.startSpot x g n held net state pending)
          | true => exact .ok (.requestSpot x g held (by simp [net, state]))
        | quiet | phaseP | phaseN | release => exact .ok (.requestSpot x g held (by simp [net, state]))

theorem State.definedEnd_isSome {s : State} {t : Byte} {x : SegId} (h : s.definedEnd t = some x) :
    (s.seg x).isSome := by
  unfold State.definedEnd at h
  split at h
  · split at h
    · next defined => cases h; exact defined
    · cases h
  · cases h

theorem sensorAt_none_iff {m : LinkMode} {a p : Byte} {sensor : Option (AuxLine × Polarity)}
    (h : sensorAt m a p = some sensor) : m = .declared ↔ sensor = none := by
  cases m with
  | declared => cases h; simp
  | sensed | checked =>
    simp only [sensorAt] at h
    split at h
    · cases h; simp
    · cases h

theorem defineLink_answers : Answers s (defineLink buf s) := by
  unfold defineLink
  split
  · exact .unchanged _
  · next i _ =>
    split
    · exact .unchanged _
    · next free =>
      split
      · next a b endA endB =>
        split
        · exact .unchanged _
        · next distinct =>
          split
          · split
            · exact .unchanged _
            · next _ m d _ _ _ sensor sensing =>
              have accepted := Accepts.defineLink i a b m sensor d _ free (State.definedEnd_isSome endA)
                (State.definedEnd_isSome endB) distinct (sensorAt_none_iff sensing) rfl
              simp only [State.relink, decide_eq_true_eq] at accepted
              exact .ok accepted
          · exact .unchanged _
      · exact .unchanged _

theorem retireLink_answers : Answers s (retireLink buf s) := by
  unfold retireLink
  split
  · exact .unchanged _
  · split
    · exact .unchanged _
    · next l held =>
      have accepted := Accepts.retireLink _ l held
      simp only [State.relink, decide_eq_true_eq] at accepted
      exact .ok accepted

theorem declareLink_answers : Answers s (declareLink buf s) := by
  unfold declareLink
  split
  · exact .unchanged _
  · split
    · exact .unchanged _
    · next l held =>
      split
      · exact .unchanged _
      · next mode =>
        split
        · exact .unchanged _
        · split
          · exact .unchanged _
          · next changed =>
            have accepted := Accepts.declareLink _ l _ _ held mode changed rfl
            simp only [State.relink, decide_eq_true_eq, ne_eq, ite_not] at accepted
            exact .ok accepted

theorem attachBridge_answers : Answers s (attachBridge buf s) := by
  unfold attachBridge
  split
  · exact .unchanged _
  · split
    · exact .unchanged _
    · split
      · exact .unchanged _
      · next g held =>
        split
        · exact .unchanged _
        · next free =>
          simp only [not_or, Option.not_isSome_iff_eq_none] at free
          exact .ok (.attachBridge _ _ g held free.1 free.2)

theorem detachBridge_answers : Answers s (detachBridge buf s) := by
  unfold detachBridge
  split
  · exact .unchanged _
  · split
    · exact .unchanged _
    · next held => exact .ok (.detachBridge _ _ held)

theorem resetBridge_answers : Answers s (resetBridge buf s) := by
  unfold resetBridge
  split
  · exact .unchanged _
  · split
    · exact .unchanged _
    · next faulted =>
      split
      · exact .unchanged _
      · next cause => exact .ok (.resetBridge _ (not_not.mp faulted) cause)

end Bodies

/-- Every body answers with the state as it was, or as completed with the change of an accepted frame (R162). -/
theorem Commands.answers {c : Instr} {code : Byte} {n : Nat} {f : Clocked} {body : List Byte → State → Reply × State}
    (h : Commands c code n f body) (buf : List Byte) (s : State) : Answers s (body buf s) := by
  cases h with
  | noOperation | readSummary => exact .unchanged _
  | readSegment => exact readSegment_answers buf s
  | readNet => exact readNet_answers buf s
  | readLink => exact readLink_answers buf s
  | readBridge => exact readBridge_answers buf s
  | readNotices => exact readNotices_answers buf s
  | readTrim => exact readTrim_answers buf s
  | defineSegment => exact defineSegment_answers buf s
  | amendSegment => exact amendSegment_answers buf s
  | retireSegment => exact retireSegment_answers buf s
  | clearLowMark => exact clearLowMark_answers buf s
  | acknowledgeFault => exact acknowledgeFault_answers buf s
  | spotCheck => exact spotCheck_answers buf s
  | defineLink => exact defineLink_answers buf s
  | retireLink => exact retireLink_answers buf s
  | declareLink => exact declareLink_answers buf s
  | attachBridge => exact attachBridge_answers buf s
  | detachBridge => exact detachBridge_answers buf s
  | resetBridge => exact resetBridge_answers buf s
  | setNoticeEnables | clearNoticeEnables => exact changeEnables_answers s _ _ _
  | setTiming => exact setTiming_answers buf s
  | restart f raw => exact .ok (.restart raw)

end Sys2Proof.Machine

/-! # What every command leaves alone, and the rows of the port (R140, R141, R150 to R162) -/

namespace Sys2Proof.Machine

/-! ## The queue, the resets, the port and the lines under the shared operations -/

/-- `t` has the queue, the reset levels, the port and the output lines of `s`. -/
structure Leaves (s t : State) : Prop where
  pending : t.pending = s.pending
  supplyValid : t.supplyValid = s.supplyValid
  resetHigh : t.resetHigh = s.resetHigh
  port : t.port = s.port
  alert : t.alert = s.alert
  faultLine : t.faultLine = s.faultLine

theorem Leaves.refl (s : State) : Leaves s s := ⟨rfl, rfl, rfl, rfl, rfl, rfl⟩

theorem Leaves.trans {s t u : State} (p : Leaves s t) (q : Leaves t u) : Leaves s u :=
  ⟨q.pending.trans p.pending, q.supplyValid.trans p.supplyValid, q.resetHigh.trans p.resetHigh, q.port.trans p.port,
    q.alert.trans p.alert, q.faultLine.trans p.faultLine⟩

theorem Leaves.running {s t : State} (h : Leaves s t) : t.running = s.running := by
  rw [State.running, h.supplyValid, h.resetHigh, State.running]

theorem Resolves.leaves {s t : State} (h : Resolves s t) : Leaves s t := by
  obtain ⟨pending, supplyValid, resetHigh, -⟩ := h.fields
  exact ⟨pending, supplyValid, resetHigh, h.port, h.alert, h.faultLine⟩

theorem leaves_setSeg (s : State) (x : SegId) (r : Option Segment) : Leaves s (s.setSeg x r) :=
  ⟨rfl, rfl, rfl, rfl, rfl, rfl⟩

theorem leaves_mapSegs (s : State) (f : SegId → Segment → Segment) : Leaves s (s.mapSegs f) :=
  ⟨s.mapSegs_pending f, s.mapSegs_supplyValid f, s.mapSegs_resetHigh f, s.mapSegs_port f, s.mapSegs_alert f,
    s.mapSegs_faultLine f⟩

theorem leaves_modSeg (s : State) (x : SegId) (f : Segment → Segment) : Leaves s (s.modSeg x f) :=
  ⟨rfl, rfl, rfl, rfl, rfl, rfl⟩

theorem leaves_setLink (s : State) (i : LinkId) (r : Option Link) : Leaves s (s.setLink i r) :=
  ⟨rfl, rfl, rfl, rfl, rfl, rfl⟩

theorem leaves_modBridge (s : State) (b : BridgeId) (f : Bridge → Bridge) : Leaves s (s.modBridge b f) :=
  ⟨rfl, rfl, rfl, rfl, rfl, rfl⟩

theorem leaves_modNet (s : State) (a : SegId) (f : Net → Net) : Leaves s (s.modNet a f) :=
  ⟨rfl, rfl, rfl, rfl, rfl, rfl⟩

theorem leaves_raiseDevice (s : State) (k : DevNotice) : Leaves s (s.raiseDevice k) := ⟨rfl, rfl, rfl, rfl, rfl, rfl⟩

theorem leaves_recompute (s : State) : Leaves s s.recompute := (resolves_recompute s).leaves

theorem leaves_startCycle (s : State) (a : SegId) : Leaves s (s.startCycle a) := (resolves_startCycle s a).leaves

theorem leaves_detachHeld (s : State) (b : Option BridgeId) : Leaves s (s.detachHeld b) := by
  cases b with
  | none => exact .refl s
  | some b => exact leaves_modBridge s b fun r => { r with attached := none }

theorem leaves_relink (s : State) (i : LinkId) (r : Option Link) (event : Bool) : Leaves s (s.relink i r event) := by
  unfold State.relink
  split
  · exact (leaves_setLink s i r).trans (leaves_recompute _)
  · exact leaves_setLink s i r

theorem leaves_amend (s : State) (x : SegId) (g : Segment) (d : Declared) (src : Source) (latch drive : Bool) :
    Leaves s (s.amend x g d src latch drive) := by
  have record := leaves_setSeg s x (some (g.amend d src latch drive))
  have sourced : Leaves s (if src = g.source then s.setSeg x (some (g.amend d src latch drive))
      else (s.setSeg x (some (g.amend d src latch drive))).recompute) := by
    split
    · exact record
    · exact record.trans (leaves_recompute _)
  unfold State.amend
  dsimp only
  split
  · exact sourced
  · exact sourced.trans (leaves_modSeg _ _ _)

theorem leaves_resetNotices (s : State) : Leaves s s.resetNotices := by
  have raises (bs : List BridgeId) (t : State) :
      Leaves t (bs.foldl (fun u _ => u.raiseDevice .trimFault) t) := by
    induction bs generalizing t with
    | nil => exact .refl t
    | cons b bs ih => exact (leaves_raiseDevice t .trimFault).trans (ih _)
  exact Leaves.trans (t := { s with devPending := 0#4, devEnables := 0b1111#4, devRepeated := false }.raiseDevice
    .restarted) ⟨rfl, rfl, rfl, rfl, rfl, rfl⟩ (raises _ _)

theorem leaves_restart (s : State) (raw : RawContacts) : Leaves s (s.restart raw) :=
  Leaves.trans (t := { s.clearRecords raw with bridges := Vector.ofFn fun i => (s.bridges[i]).restart s.uptime })
    ⟨rfl, rfl, rfl, rfl, rfl, rfl⟩ (leaves_resetNotices _)

/-- An accepted frame changes records, parameters and notices only (R160, R161). -/
theorem Accepts.leaves {s t : State} (h : Accepts s t) : Leaves s t := by
  cases h with
  | clearNotices | setEnables | clearLowMark | acknowledgeFault | requestSpot => exact leaves_setSeg s _ _
  | clearAllNotices | setAllEnables => exact leaves_mapSegs s _
  | clearDeviceNotices | setDeviceEnables | setTiming => exact ⟨rfl, rfl, rfl, rfl, rfl, rfl⟩
  | restart raw => exact leaves_restart s raw
  | defineSegment => exact (leaves_setSeg s _ _).trans (leaves_recompute _)
  | amendSegment => exact leaves_amend s _ _ _ _ _ _
  | retireSegment =>
    exact (leaves_detachHeld s _).trans ((leaves_setSeg _ _ _).trans (leaves_recompute _))
  | startSpot => exact (leaves_setSeg s _ _).trans (leaves_startCycle _ _)
  | defineLink | retireLink | declareLink => exact leaves_relink s _ _ _
  | attachBridge | detachBridge =>
    exact (leaves_modBridge s _ _).trans ((leaves_modSeg _ _ _).trans (leaves_recompute _))
  | resetBridge => exact (leaves_modBridge s _ _).trans (leaves_recompute _)

theorem Answers.leaves {s : State} {a : Reply × State} (h : Answers s a) : Leaves s a.2 := by
  rcases h with same | ⟨-, accepted⟩
  · rw [same]; exact .refl s
  · exact accepted.leaves

/-! ## Events -/

theorem leaves_faultBridge (s : State) (b : BridgeId) (c : FaultCause) : Leaves s (s.faultBridge b c) :=
  (leaves_modBridge s b _).trans ((leaves_raiseDevice _ _).trans (leaves_recompute _))

theorem leaves_complete (s : State) (n : Net) (b : BridgeId) (g : References) (p v : PhaseValues) :
    Leaves s (s.complete n b g p v) := by
  unfold State.complete
  dsimp only
  refine .trans ?_ (leaves_mapSegs _ _)
  split
  · exact ((leaves_modBridge s _ _).trans (leaves_modNet _ _ _)).trans (leaves_mapSegs _ _)
  · exact (leaves_modBridge s _ _).trans (leaves_modNet _ _ _)

theorem leaves_endPhase (s : State) (n : Net) (unsettled : Bool) : Leaves s (s.endPhase n unsettled) := by
  unfold State.endPhase
  split
  · exact (leaves_modNet s _ _).trans (leaves_modBridge _ _ _)
  · split
    · exact leaves_complete s _ _ _ _ _
    · exact .refl s
  · exact .refl s

theorem leaves_handSample (s : State) (b : BridgeId) (x : Sample) : Leaves s (s.handSample b x) := by
  unfold State.handSample
  split
  · exact .refl s
  · split
    · exact .refl s
    · dsimp only
      split
      · split
        · exact (leaves_modNet s _ _).trans (leaves_endPhase _ _ _)
        · exact leaves_modNet s _ _
      · exact .refl s

theorem leaves_sampleBridge (s : State) (b : BridgeId) (p n : BitVec 16) : Leaves s (s.sampleBridge b p n) := by
  unfold State.sampleBridge
  dsimp only
  split
  · exact (leaves_modBridge s _ _).trans (leaves_handSample _ _ _)
  · exact leaves_modBridge s _ _

theorem leaves_reportConfirmation (s : State) (b : BridgeId) : Leaves s (s.reportConfirmation b) := by
  unfold State.reportConfirmation
  split
  · exact .refl s
  · split
    · exact leaves_modNet s _ _
    · exact .refl s

theorem leaves_confirmOpen (s : State) (b : BridgeId) : Leaves s (s.confirmOpen b) := by
  unfold State.confirmOpen
  split
  · exact leaves_modBridge s _ _
  · exact (leaves_modBridge s _ _).trans (resolves_reportParked _ _).leaves

theorem leaves_changeAux (s : State) (i : AuxLine) : Leaves s (s.changeAux i) := by
  have follows : Leaves s ({ s with aux := s.aux.set i (s.aux[i]).change }.followLinks i (s.aux[i]).change.level) := by
    unfold State.followLinks
    exact ⟨rfl, rfl, rfl, rfl, rfl, rfl⟩
  unfold State.changeAux
  dsimp only
  split
  · exact follows.trans (leaves_recompute _)
  · exact follows

/-- An event of the part changes records and notices only; the lines follow it by `State.refreshLines` (R161). -/
theorem Occurs.leaves {s : State} {c : Instr} {due : Bool} {effect : State → State} (h : Occurs s c due effect) :
    Leaves s (effect s) := by
  cases h with
  | filteredChangeAux i => exact leaves_changeAux s i
  | filteredChangeExt i =>
    exact Leaves.trans (t := { s with ext := s.ext.set i (s.ext[i]).change }) ⟨rfl, rfl, rfl, rfl, rfl, rfl⟩
      (leaves_mapSegs _ _)
  | agreementWindowExpiry => exact (leaves_setLink s _ _).trans (leaves_raiseDevice _ _)
  | expiry => exact leaves_modSeg s _ _
  | sampleEvent => exact leaves_sampleBridge s _ _ _
  | dwellTimerExpiry a =>
    simp only [State.takeDwell]
    split
    · exact leaves_modBridge s _ _
    · exact .refl s
  | maxDwellTimerExpiry a =>
    simp only [State.takeMaxDwell]
    split
    · exact leaves_endPhase s _ _
    · exact .refl s
  | quietTimerExpiry => exact (leaves_modNet s _ _).trans (resolves_testWaiting _ _).leaves
  | spacingExpiry => exact leaves_startCycle s _
  | closeConfirmation b => exact (leaves_modBridge s _ _).trans (leaves_reportConfirmation _ b)
  | openConfirmation b => exact leaves_confirmOpen s b
  | closeTimeout | openTimeout | senseDropout | stuckOppositeSense | stuckInParked | stuckEscalation =>
    exact leaves_faultBridge s _ _

/-! ## The step and the answers of a frame -/

/-- Settles O1: by the definition of the step. -/
theorem stepRunsFrontCommand : Obligations.StepRunsFrontCommand := by
  unfold Obligations.StepRunsFrontCommand
  exact ⟨fun s c rest front => by rw [step, front], fun s idle => by rw [step, idle]⟩

/-- What a rise over a frame with a listed code leaves: over no open frame the level of CS_N only, over a short one the
closed port, and else the state of the body with the closed port (R159). -/
theorem State.riseWith_cases (s : State) (code : Byte) (n : Nat) (f : Clocked)
    (body : List Byte → State → Reply × State) :
    (s.running && s.port.frameOpen) = false ∧ s.riseWith code n f body = s.raiseChipSelect ∨
    (s.running && s.port.frameOpen) = true ∧ ∃ (r : Reply) (t : State) (buf sent : List Byte),
      s.riseWith code n f body = t.closeFrame code r buf sent ∧
      ((r, t) = body buf s ∨ (r, t) = (Reply.plain .shortFrame, s)) := by
  cases ready : s.running && s.port.frameOpen with
  | false => exact .inl ⟨rfl, by simp [State.riseWith, ready]⟩
  | true =>
    simp only [Bool.and_eq_true] at ready
    rcases Nat.lt_or_ge (storedBytes code f).length n with short | long
    · exact .inr ⟨rfl, _, s, _, _, s.riseWith_short code n f body ready.1 ready.2 short, .inr rfl⟩
    · exact .inr ⟨rfl, _, _, _, _, s.riseWith_executes code n f body ready.1 ready.2 long, .inl rfl⟩

/-- The same for a rise over a frame of steps 1 and 2 of R159. -/
theorem State.riseUnknown_cases (s : State) (code : Option Byte) (f : Clocked) :
    (s.running && s.port.frameOpen) = false ∧ s.riseUnknown code f = s.raiseChipSelect ∨
    (s.running && s.port.frameOpen) = true ∧ ∃ (code' : Byte) (st : Status) (buf sent : List Byte),
      s.riseUnknown code f = s.closeFrame code' (Reply.plain st) buf sent ∧ st.completed = false := by
  cases ready : s.running && s.port.frameOpen with
  | false => exact .inl ⟨rfl, by simp [State.riseUnknown, ready]⟩
  | true =>
    cases code with
    | none => exact .inr ⟨rfl, 0x00#8, .shortFrame, [], [], by simp [State.riseUnknown, ready], rfl⟩
    | some c =>
      exact .inr ⟨rfl, c, .unknownCommand, storedBytes c f, s.port.shifted (f.bytes.length + 1) f.early,
        by simp [State.riseUnknown, ready], rfl⟩

@[simp] theorem State.closeFrame_pending (s : State) (c : Byte) (r : Reply) (buf sent : List Byte) :
    (s.closeFrame c r buf sent).pending = s.pending := by
  simp [State.closeFrame]

theorem State.riseWith_pending {c : Instr} {code : Byte} {n : Nat} {f : Clocked}
    {body : List Byte → State → Reply × State} (h : Commands c code n f body) (s : State) :
    (s.riseWith code n f body).pending = s.pending := by
  rcases s.riseWith_cases code n f body with ⟨-, rise⟩ | ⟨-, r, t, buf, sent, rise, answer⟩
  · rw [rise, State.raiseChipSelect_pending]
  · rw [rise, State.closeFrame_pending]
    rcases answer with answer | answer
    · rw [← (h.answers buf s).leaves.pending, ← answer]
    · rw [(Prod.mk.inj answer).2]

theorem State.riseUnknown_pending (s : State) (code : Option Byte) (f : Clocked) :
    (s.riseUnknown code f).pending = s.pending := by
  rcases s.riseUnknown_cases code f with ⟨-, rise⟩ | ⟨-, _, _, _, _, rise, -⟩
  · rw [rise, State.raiseChipSelect_pending]
  · rw [rise, State.closeFrame_pending]

theorem State.event_pending {s : State} {c : Instr} {due : Bool} {effect : State → State}
    (h : Occurs s c due effect) : (s.event due effect).pending = s.pending := by
  unfold State.event
  split
  · rw [State.refreshLines_pending, h.leaves.pending]
  · rfl

theorem State.fallChipSelect_pending (s : State) : s.fallChipSelect.pending = s.pending := by
  unfold State.fallChipSelect
  split
  · split <;> rfl
  · rfl

theorem State.startAfresh_pending (s : State) (raw : RawContacts) : (s.startAfresh raw).pending = s.pending := by
  rw [State.startAfresh, State.refreshLines_pending, (leaves_resetNotices _).pending]
  rfl

/-- Settles O2: the frames and the events by what their meanings leave, the other rows one by one. -/
theorem everyCommandAnswers : Obligations.EveryCommandAnswers := by
  unfold Obligations.EveryCommandAnswers
  intro c s
  refine ⟨fun wf => ?_, fun code f isUnknown noFrame => ?_⟩
  · rcases instr_meaning c s with ⟨code, n, f, body, command⟩ | ⟨due, effect, event⟩ | own
    · exact ⟨_, command.exec s, State.riseWith_pending command s⟩
    · exact ⟨_, event.exec, State.event_pending event⟩
    · cases own with
      | chipSelectFall => exact ⟨_, rfl, s.fallChipSelect_pending⟩
      | unknownCommand code f =>
        simp only [Instr.wf, Bool.and_eq_true] at wf
        exact ⟨s.riseUnknown code f, if_pos wf.1, s.riseUnknown_pending code f⟩
      | uptimeAdvance raw => exact ⟨_, rfl, by split <;> rfl⟩
      | powerOnReset raw =>
        refine ⟨_, rfl, ?_⟩
        split
        · exact State.startAfresh_pending _ raw
        · rfl
      | pinReset | powerOnResetStart => exact ⟨_, rfl, rfl⟩
      | resetNRise raw =>
        refine ⟨_, rfl, ?_⟩
        split
        · rfl
        · split
          · exact State.startAfresh_pending _ raw
          · rfl
  · subst isUnknown
    exact if_neg (by simp [noFrame])

/-! ## The output lines -/

/-- After a refresh FAULT_N follows its condition, and ALERT_N does so outside an open frame (R140, R150, R151). -/
theorem State.linesFollow_refreshLines (s : State) : s.refreshLines.LinesFollow := by
  unfold State.LinesFollow
  rw [← State.running_iff, State.running_refreshLines, State.refreshLines_port, State.faultHeld_refreshLines,
    State.alertHeld_refreshLines]
  cases running : s.running with
  | false => simp [State.refreshLines, running]
  | true =>
    obtain ⟨faultLine, alert⟩ := s.refreshLines_lines running
    rw [faultLine, alert]
    refine ⟨by simp [State.faultCondition_iff], by simp, fun _ closed => ?_⟩
    simp [closed, State.alertCondition_iff]

theorem State.linesFollow_closeFrame (s : State) (c : Byte) (r : Reply) (buf sent : List Byte) :
    (s.closeFrame c r buf sent).LinesFollow :=
  State.linesFollow_refreshLines _

/-- The law reads of a state only its lines, its resets, whether a frame is open, the segments and the device notices. -/
theorem State.LinesFollow.congr {s t : State} (h : s.LinesFollow) (alert : t.alert = s.alert)
    (faultLine : t.faultLine = s.faultLine) (running : t.Running ↔ s.Running)
    (frameOpen : t.port.frameOpen = false → s.port.frameOpen = false) (segs : t.segs = s.segs)
    (devPending : t.devPending = s.devPending) (devEnables : t.devEnables = s.devEnables) : t.LinesFollow := by
  obtain ⟨fault, inReset, alerts⟩ := h
  have faultHeld : t.FaultHeld ↔ s.FaultHeld := by simp only [State.FaultHeld, State.seg, segs]
  have alertHeld : t.AlertHeld ↔ s.AlertHeld := by
    simp only [State.AlertHeld, State.seg, segs, devPending, devEnables]
  refine ⟨?_, ?_, fun up closed => ?_⟩
  · rw [faultLine, running, faultHeld, fault]
  · rw [running, alert]; exact inReset
  · rw [alert, alertHeld]; exact alerts (running.mp up) (frameOpen closed)

theorem State.linesFollow_stop (s : State) (held : s.running = false) : s.stop.LinesFollow := by
  have notRunning : ¬ s.stop.Running := by rw [← State.running_iff, s.running_stop held]; decide
  exact ⟨⟨fun asserted => Bool.noConfusion asserted, fun ⟨up, _⟩ => absurd up notRunning⟩, fun _ => rfl,
    fun up => absurd up notRunning⟩

/-- Every row keeps the law: a rise and a taken event refresh the lines, the others leave what it reads. -/
theorem State.LinesFollow.exec {s t : State} {c : Instr} (h : s.LinesFollow) (next : exec c s = .next t) :
    t.LinesFollow := by
  have raised : s.raiseChipSelect.LinesFollow := h.congr rfl rfl .rfl id rfl rfl rfl
  rcases instr_meaning c s with ⟨code, n, f, body, command⟩ | ⟨due, effect, event⟩ | own
  · rw [command.exec s] at next
    obtain rfl := Host.Outcome.next.inj next
    rcases s.riseWith_cases code n f body with ⟨-, rise⟩ | ⟨-, _, _, _, _, rise, -⟩
    · rwa [rise]
    · rw [rise]; exact State.linesFollow_closeFrame _ _ _ _ _
  · rw [event.exec] at next
    obtain rfl := Host.Outcome.next.inj next
    unfold State.event
    split
    · exact State.linesFollow_refreshLines _
    · exact h
  · cases own with
    | chipSelectFall =>
      obtain rfl := Host.Outcome.next.inj next
      unfold State.fallChipSelect
      split
      · split
        · exact h.congr rfl rfl .rfl (fun opened => Bool.noConfusion opened) rfl rfl rfl
        · exact h.congr rfl rfl .rfl id rfl rfl rfl
      · exact h
    | unknownCommand code f =>
      simp only [Machine.exec, execUnknownCommand] at next
      split at next
      · obtain rfl := Host.Outcome.next.inj next
        rcases s.riseUnknown_cases code f with ⟨-, rise⟩ | ⟨-, _, _, _, _, rise, -⟩
        · rwa [rise]
        · rw [rise]; exact State.linesFollow_closeFrame _ _ _ _ _
      · cases next
    | uptimeAdvance raw =>
      obtain rfl := Host.Outcome.next.inj next
      split
      · exact h.congr rfl rfl .rfl id rfl rfl rfl
      · exact h
    | powerOnReset raw =>
      obtain rfl := Host.Outcome.next.inj next
      split
      · exact State.linesFollow_refreshLines _
      · next low => exact h.congr rfl rfl (by simp [State.Running, low]) id rfl rfl rfl
    | pinReset =>
      obtain rfl := Host.Outcome.next.inj next
      exact State.linesFollow_stop _ (Bool.and_false _)
    | resetNRise raw =>
      obtain rfl := Host.Outcome.next.inj next
      split
      · exact h
      · split
        · exact State.linesFollow_refreshLines _
        · next invalid => exact h.congr rfl rfl (by simp [State.Running, invalid]) id rfl rfl rfl
    | powerOnResetStart =>
      obtain rfl := Host.Outcome.next.inj next
      exact State.linesFollow_stop _ (Bool.false_and _)

/-- A step runs the front command on the state with the rest of the queue, or leaves the state. -/
theorem step_next {s t : State} (h : step s = .next t) :
    t = s ∨ ∃ c rest, s.pending = c :: rest ∧ exec c { s with pending := rest } = .next t := by
  unfold step at h
  split at h
  · exact .inl (Host.Outcome.next.inj h).symm
  · next c rest queue => exact .inr ⟨c, rest, queue, h⟩

/-- Settles O56. -/
theorem linesFollowIsKept : Obligations.LinesFollowIsKept := by
  unfold Obligations.LinesFollowIsKept
  intro s t follow next
  rcases step_next next with rfl | ⟨c, rest, -, next⟩
  · exact follow
  · exact State.LinesFollow.exec (s := { s with pending := rest }) (follow.congr rfl rfl .rfl id rfl rfl rfl) next

end Sys2Proof.Machine

/-! # Frames: the summary byte, the freeze, the refusals and the codes (R151, R155 to R162, R171) -/

namespace Sys2Proof.Machine

/-! ## The summary byte (R158) -/

theorem mem_allLinks (i : LinkId) : i ∈ allLinks := by revert i; decide

theorem mem_allBridges (b : BridgeId) : b ∈ allBridges := by revert b; decide

/-- The largest of a list of numbers is at most `k` exactly when each of them is. -/
theorem foldl_max_le_iff {α : Type} (f : α → Nat) (xs : List α) (m k : Nat) :
    xs.foldl (fun w x => max w (f x)) m ≤ k ↔ m ≤ k ∧ ∀ x ∈ xs, f x ≤ k := by
  induction xs generalizing m with
  | nil => simp
  | cons x xs ih => simp [ih, and_assoc]

theorem State.worstAlarm_le_iff (s : State) (k : Nat) :
    s.worstAlarm ≤ k ↔ ∀ x g, s.seg x = some g → g.alarm.code ≤ k := by
  rw [State.worstAlarm, foldl_max_le_iff]
  constructor
  · rintro ⟨-, all⟩ x g held
    simpa [held] using all x (mem_allSegs x)
  · intro all
    refine ⟨Nat.zero_le k, fun x _ => ?_⟩
    cases held : s.seg x with
    | none => exact Nat.zero_le k
    | some g => exact all x g held

theorem Alarm.code_le_two (a : Alarm) : a.code ≤ 2 := by cases a <;> decide

theorem State.worstAlarm_eq_two {s : State} (fault : ∃ x g, s.seg x = some g ∧ g.alarm = .fault) : s.worstAlarm = 2 := by
  obtain ⟨x, g, held, alarm⟩ := fault
  refine Nat.le_antisymm ((s.worstAlarm_le_iff 2).mpr fun _ h _ => h.alarm.code_le_two) (Nat.lt_of_not_le fun below => ?_)
  have := (s.worstAlarm_le_iff 1).mp below x g held
  rw [alarm] at this
  exact absurd this (by decide)

theorem State.worstAlarm_eq_one {s : State} (noFault : ∀ x g, s.seg x = some g → g.alarm ≠ .fault)
    (warn : ∃ x g, s.seg x = some g ∧ g.alarm = .warn) : s.worstAlarm = 1 := by
  obtain ⟨x, g, held, alarm⟩ := warn
  refine Nat.le_antisymm ((s.worstAlarm_le_iff 1).mpr fun y h defined => ?_) (Nat.lt_of_not_le fun below => ?_)
  · have := noFault y h defined
    cases alarm : h.alarm <;> simp_all [Alarm.code]
  · have := (s.worstAlarm_le_iff 0).mp below x g held
    rw [alarm] at this
    exact absurd this (by decide)

theorem State.worstAlarm_eq_zero {s : State} (clear : ∀ x g, s.seg x = some g → g.alarm = .clear) : s.worstAlarm = 0 :=
  Nat.le_zero.mp ((s.worstAlarm_le_iff 0).mpr fun x g held => by rw [clear x g held]; decide)

/-- The flags in bits 0 to 5 of the summary byte, in ascending order. -/
def State.summaryFlags (s : State) : List Bool :=
  [allLinks.any fun l => (s.link l).any (·.disagreeFlag), allSegs.any fun x => (s.seg x).any (·.stale),
    allBridges.any fun b => (s.bridge b).state == .faulted, s.nets.any fun n => n.state == .quiet,
    s.port.slot.status.completed, s.alertCondition]

theorem State.summaryByte_eq (s : State) :
    s.summaryByte = BitVec.ofNat 8 (2 ^ 6 * s.worstAlarm + bitMap s.summaryFlags) := by
  have sum (w a b c d e f : Nat) :
      64 * w + 32 * a + 16 * b + 8 * c + 4 * d + 2 * e + f =
        2 ^ 6 * w + (f + 2 * (e + 2 * (d + 2 * (c + 2 * (b + 2 * (a + 2 * 0)))))) := by omega
  exact congrArg (BitVec.ofNat 8) (sum _ _ _ _ _ _ _)

theorem State.bitMap_summaryFlags_lt (s : State) : bitMap s.summaryFlags < 2 ^ 6 := bitMap_lt s.summaryFlags

theorem State.summaryByte_toNat (s : State) :
    s.summaryByte.toNat = 2 ^ 6 * s.worstAlarm + bitMap s.summaryFlags := by
  have flags := s.bitMap_summaryFlags_lt
  have worst : s.worstAlarm ≤ 2 := (s.worstAlarm_le_iff 2).mpr fun _ h _ => h.alarm.code_le_two
  rw [s.summaryByte_eq, BitVec.toNat_ofNat, Nat.mod_eq_of_lt (by omega)]

theorem State.summaryByte_alarm (s : State) : s.summaryByte.toNat / 64 = s.worstAlarm := by
  have flags := s.bitMap_summaryFlags_lt
  rw [s.summaryByte_toNat]
  omega

theorem State.summaryByte_flag (s : State) (i : Nat) (h : i < 6) :
    s.summaryByte.getLsbD i = s.summaryFlags.getD i false := by
  rw [← BitVec.testBit_toNat, s.summaryByte_toNat, Nat.testBit_two_pow_mul_add _ s.bitMap_summaryFlags_lt, if_pos h,
    testBit_bitMap]

theorem Status.completed_iff (st : Status) : st.completed = true ↔ st = .ok ∨ st = .clamped := by
  cases st <;> decide

/-- Settles O3: the fall by its definition, the byte by its two parts. -/
theorem chipSelectFallOpensFrame : Obligations.ChipSelectFallOpensFrame := by
  unfold Obligations.ChipSelectFallOpensFrame
  intro s
  refine ⟨fun high up => ?_, fun high held => ?_, fun low => ?_⟩
  · refine ⟨s.summaryByte, ?_, fun fault => ?_, fun noFault warn => ?_, fun clear => ?_, ?_, ?_, ?_, ?_, ?_, ?_⟩
    · simp [exec, execChipSelectFall, State.fallChipSelect, high, s.running_iff.mpr up, BitVec.msb_eq_getLsbD_last]
    · rw [s.summaryByte_alarm, State.worstAlarm_eq_two fault]
    · rw [s.summaryByte_alarm, State.worstAlarm_eq_one noFault warn]
    · rw [s.summaryByte_alarm, State.worstAlarm_eq_zero clear]
    · rw [s.summaryByte_flag 5 (by decide), ← s.alertCondition_iff]; rfl
    · rw [s.summaryByte_flag 4 (by decide), ← Status.completed_iff]; rfl
    · rw [s.summaryByte_flag 3 (by decide)]; simp [State.summaryFlags]
    · rw [s.summaryByte_flag 2 (by decide)]; simp [State.summaryFlags, mem_allBridges]
    · rw [s.summaryByte_flag 1 (by decide)]; simp [State.summaryFlags, mem_allSegs, Option.any_eq_true]
    · rw [s.summaryByte_flag 0 (by decide)]; simp [State.summaryFlags, mem_allLinks, Option.any_eq_true]
  · have held : s.running = false := Bool.not_eq_true _ ▸ mt s.running_iff.mp held
    simp [exec, execChipSelectFall, State.fallChipSelect, high, held]
  · simp [exec, execChipSelectFall, State.fallChipSelect, low]

/-! ## The freeze of an open frame -/

theorem State.Ready.running {s : State} (h : s.Ready) : s.running = true := s.running_iff.mpr h.1

theorem State.Ready.taken {s : State} (h : s.Ready) : (s.running && s.port.frameOpen) = true := by
  rw [h.running, h.2]; rfl

@[simp] theorem State.closeFrame_frameOpen (s : State) (c : Byte) (r : Reply) (buf sent : List Byte) :
    (s.closeFrame c r buf sent).port.frameOpen = false := by
  rw [State.closeFrame_port]

/-- Over an open frame a rise with a listed code closes the frame on what the body answers, or as too short. -/
theorem State.riseWith_of_ready {s : State} (ready : s.Ready) (code : Byte) (n : Nat) (f : Clocked)
    (body : List Byte → State → Reply × State) : ∃ (r : Reply) (t : State) (buf sent : List Byte),
      s.riseWith code n f body = t.closeFrame code r buf sent ∧
      ((r, t) = body buf s ∨ (r, t) = (Reply.plain .shortFrame, s)) := by
  rcases s.riseWith_cases code n f body with ⟨closed, -⟩ | ⟨-, rise⟩
  · rw [ready.taken] at closed; cases closed
  · exact rise

theorem State.riseUnknown_of_ready {s : State} (ready : s.Ready) (code : Option Byte) (f : Clocked) :
    ∃ (code' : Byte) (st : Status) (buf sent : List Byte),
      s.riseUnknown code f = s.closeFrame code' (Reply.plain st) buf sent ∧ st.completed = false := by
  rcases s.riseUnknown_cases code f with ⟨closed, -⟩ | ⟨-, rise⟩
  · rw [ready.taken] at closed; cases closed
  · exact rise

/-- Settles O4: a rise closes the frame and a reset discards it; a taken event leaves the port, and the refresh of the
lines freezes ALERT_N. -/
theorem openFrameFreezesPortAndAlert : Obligations.OpenFrameFreezesPortAndAlert := by
  unfold Obligations.OpenFrameFreezesPortAndAlert
  intro c s t ready low next stays
  have shut {p : Prop} {u : State} (closed : u.port.frameOpen = false) (e : u = t) : p := by
    rw [e, stays] at closed; cases closed
  rcases instr_meaning c s with ⟨code, n, f, body, command⟩ | ⟨due, effect, event⟩ | own
  · obtain ⟨_, _, _, _, rise, -⟩ := State.riseWith_of_ready ready code n f body
    rw [command.exec s, rise] at next
    exact shut (State.closeFrame_frameOpen _ _ _ _ _) (Host.Outcome.next.inj next)
  · rw [event.exec] at next
    obtain rfl := Host.Outcome.next.inj next
    unfold State.event
    split
    · have leaves := event.leaves
      obtain ⟨-, alert⟩ := (effect s).refreshLines_lines (leaves.running.trans ready.running)
      rw [State.refreshLines_port, alert, leaves.port, leaves.alert, ready.2]
      exact ⟨rfl, rfl⟩
    · exact ⟨rfl, rfl⟩
  · cases own with
    | chipSelectFall =>
      rw [exec, execChipSelectFall, State.fallChipSelect, low] at next
      obtain rfl := Host.Outcome.next.inj next
      exact ⟨rfl, rfl⟩
    | unknownCommand code f =>
      simp only [exec, execUnknownCommand] at next
      split at next
      · obtain ⟨_, _, _, _, rise, -⟩ := State.riseUnknown_of_ready ready code f
        rw [rise] at next
        exact shut (State.closeFrame_frameOpen _ _ _ _ _) (Host.Outcome.next.inj next)
      · cases next
    | uptimeAdvance raw =>
      obtain rfl := Host.Outcome.next.inj next
      split <;> exact ⟨rfl, rfl⟩
    | powerOnReset raw =>
      refine shut ?_ (Host.Outcome.next.inj next)
      rw [if_pos ready.1.2, State.startAfresh, State.refreshLines_port, (leaves_resetNotices _).port]
    | pinReset | powerOnResetStart => exact shut rfl (Host.Outcome.next.inj next)
    | resetNRise raw =>
      obtain rfl := Host.Outcome.next.inj next
      rw [if_pos ready.1.2]
      exact ⟨rfl, rfl⟩

/-! ## Frames that execute nothing -/

/-- A command that ends a frame has a listed code, or is the row UNKNOWN_COMMAND. -/
theorem frameOf_cases {c : Instr} {clocked : List Byte × List Bool × Bool} (h : frameOf c = some clocked) :
    (∃ code n f body, Commands c code n f body) ∨ ∃ code f, c = .unknownCommand code f := by
  rcases instr_meaning c State.reset with command | ⟨due, effect, event⟩ | own
  · exact .inl command
  · rw [event.frameOf] at h; cases h
  · cases own with
    | unknownCommand code f => exact .inr ⟨code, f, rfl⟩
    | _ => cases h

/-- A frame that closes on the unchanged state completes with that status and no payload. -/
theorem State.completes_of_closeFrame {s : State} {c : Instr} {code : Byte} {f : Clocked} {st : Status}
    (ready : s.Ready)
    (rise : exec c s = .next (s.closeFrame code (Reply.plain st) (storedBytes code f)
      (s.port.shifted (f.bytes.length + 1) f.early)))
    (early : c.early = f.early) : s.Completes c (code :: f.bytes) st [] s := by
  obtain ⟨faultLine, alert⟩ := s.closeFrame_lines code (Reply.plain st) (storedBytes code f)
    (s.port.shifted (f.bytes.length + 1) f.early) ready.running
  exact ⟨_, rise, by rw [early]; exact s.closeFrame_port_closed code _ f, faultLine, alert, s.closeFrame_records _ _ _ _⟩

theorem Commands.length_le {c : Instr} {code : Byte} {n : Nat} {f : Clocked}
    {body : List Byte → State → Reply × State} (h : Commands c code n f body) : n ≤ 18 := by
  cases h <;> decide

/-- Settles O5: the frames of steps 1 and 2 are UNKNOWN_COMMAND, those of step 3 have a listed code. -/
theorem risesThatExecuteNothing : Obligations.RisesThatExecuteNothing := by
  unfold Obligations.RisesThatExecuteNothing
  intro c s frame tail early clocked wf
  have notTaken (held : ¬ s.Ready) : (s.running && s.port.frameOpen) = false := by
    rw [← Bool.not_eq_true, Bool.and_eq_true, s.running_iff]; exact held
  rcases frameOf_cases clocked with ⟨code, n, f, body, command⟩ | ⟨code, f, rfl⟩
  · have length := command.commandLength
    obtain ⟨rfl, rfl, rfl⟩ : code :: f.bytes = frame ∧ f.tail = tail ∧ f.early = early := by
      rw [command.frameOf] at clocked; simpa using clocked
    refine ⟨fun _ empty => (by cases empty), fun _ code' rest split unlisted => ?_,
      fun ready code' rest m split listed short => ?_, fun held => ?_⟩
    · cases split; rw [length] at unlisted; cases unlisted
    · cases split
      obtain rfl : n = m := by simpa [length] using listed
      refine State.completes_of_closeFrame ready ?_ command.early
      rw [command.exec s, s.riseWith_short code n f body ready.running ready.2]
      have := command.length_le
      rw [storedBytes_length]
      omega
    · rw [command.exec s, State.riseWith, if_neg (by simp [notTaken held])]
      rfl
  · simp only [Instr.wf, Bool.and_eq_true] at wf
    have meaning : exec (.unknownCommand code f) s = .next (s.riseUnknown code f) := if_pos wf.1
    have discarded (held : ¬ s.Ready) :
        exec (.unknownCommand code f) s = .next { s with port := { s.port with csHigh := true } } := by
      rw [meaning]
      unfold State.riseUnknown
      rw [if_neg (by simp [notTaken held])]
      rfl
    cases code with
    | none =>
      have empty : f.bytes = [] := List.isEmpty_iff.mp wf.1
      obtain rfl : frame = [] := by simp_all [frameOf]
      refine ⟨fun ready _ => ?_, fun _ _ _ split => (by cases split), fun _ _ _ _ split => (by cases split), discarded⟩
      obtain ⟨faultLine, alert⟩ := s.closeFrame_lines 0x00#8 (Reply.plain .shortFrame) [] [] ready.running
      refine ⟨_, meaning.trans (by simp only [State.riseUnknown, ready.taken, if_true]), ?_, faultLine, alert,
        s.closeFrame_records _ _ _ _⟩
      rw [State.closeFrame_port, Port.closed]
      cases (Instr.unknownCommand none f).early <;> rfl
    | some code =>
      obtain ⟨rfl, rfl, rfl⟩ : code :: f.bytes = frame ∧ f.tail = tail ∧ f.early = early := by
        simpa [frameOf] using clocked
      refine ⟨fun _ split => (by cases split), fun ready code' rest split unlisted => ?_,
        fun _ code' rest m split listed => ?_, discarded⟩
      · refine State.completes_of_closeFrame ready ?_ rfl
        rw [meaning, State.riseUnknown, if_pos ready.taken]
      · cases split
        simp only [unknownFrame, listed] at wf
        cases wf.1

/-- Settles O7: a body that does not answer the unchanged state answers OK or CLAMPED. -/
theorem refusedCommandChangesNoRecord : Obligations.RefusedCommandChangesNoRecord := by
  unfold Obligations.RefusedCommandChangesNoRecord
  intro c s t frame tail early clocked ready next notOk notClamped
  rcases frameOf_cases clocked with ⟨code, n, f, body, command⟩ | ⟨code, f, rfl⟩
  · obtain ⟨r, u, buf, sent, rise, answer⟩ := State.riseWith_of_ready ready code n f body
    rw [command.exec s, rise] at next
    obtain rfl := Host.Outcome.next.inj next
    rw [State.closeFrame_port] at notOk notClamped
    rw [State.closeFrame_records]
    rcases answer with answer | answer
    · have answers := command.answers buf s
      rw [← answer] at answers
      rcases answers with same | ⟨completed, -⟩
      · rw [show u = s from same]
      · exact absurd ((Status.completed_iff _).mp completed) (by simp [notOk, notClamped])
    · rw [(Prod.mk.inj answer).2]
  · simp only [exec, execUnknownCommand] at next
    split at next
    · obtain ⟨_, _, _, _, rise, -⟩ := State.riseUnknown_of_ready ready code f
      obtain rfl := Host.Outcome.next.inj next
      rw [rise, State.closeFrame_records]
    · cases next

/-! ## Codes and bytes -/

/-- An unlisted code decodes to UNKNOWN_COMMAND (R159, step 2). -/
theorem decodeFrame_unlisted {code : Byte} (unlisted : commandLength code = none) (rest : List Byte) (tail : List Bool)
    (early : Bool) (raw : RawContacts) :
    decodeFrame (code :: rest) tail early raw = .unknownCommand (some code) ⟨rest, tail, early⟩ := by
  unfold commandLength at unlisted
  unfold decodeFrame
  split at unlisted
  case h_25 => simp only
  all_goals cases unlisted

/-- A frame of a listed code decodes to its command, RESTART with its own raw levels. -/
theorem Commands.decodeFrame {c : Instr} {code : Byte} {n : Nat} {f : Clocked}
    {body : List Byte → State → Reply × State} (h : Commands c code n f body) (raw : RawContacts)
    (own : ∀ g r, c = .restart g r → raw = r) : decodeFrame (code :: f.bytes) f.tail f.early raw = c := by
  cases h with
  | restart f r => rw [own f r rfl]; rfl
  | _ => rfl

theorem decodeFrame_of_frameOf {c : Instr} {frame : List Byte} {tail : List Bool} {early : Bool} (wf : c.wf = true)
    (clocked : frameOf c = some (frame, tail, early)) (raw : RawContacts) (own : ∀ g r, c = .restart g r → raw = r) :
    decodeFrame frame tail early raw = c := by
  rcases frameOf_cases clocked with ⟨code, n, f, body, command⟩ | ⟨code, f, rfl⟩
  · rw [command.frameOf] at clocked
    cases clocked
    exact command.decodeFrame raw own
  · simp only [Instr.wf, Bool.and_eq_true] at wf
    cases code with
    | none =>
      obtain ⟨bytes, _, _⟩ := f
      obtain rfl : bytes = [] := List.isEmpty_iff.mp wf.1
      cases clocked
      rfl
    | some code =>
      cases clocked
      exact decodeFrame_unlisted (Option.isNone_iff_eq_none.mp wf.1) _ _ _ _

/-- A field byte names a value exactly when it is the value's code (R171). -/
theorem ofByte_iff_code (b : Byte) :
    (∀ v, sourceOfByte b = some v ↔ v.code = b.toNat) ∧ (∀ v, modeOfByte b = some v ↔ v.code = b.toNat) ∧
    (∀ v, polarityOfByte b = some v ↔ v.code = b.toNat) ∧ (∀ v, contactOfByte b = some v ↔ v.code = b.toNat) := by
  refine ⟨fun v => ?_, fun v => ?_, fun v => ?_, fun v => ?_⟩ <;> cases v <;> revert b <;> decide

/-- Settles O8: the frames decode by the table, the codes by their definitions. -/
theorem frameRoundTrip : Obligations.FrameRoundTrip := by
  unfold Obligations.FrameRoundTrip
  refine ⟨fun c frame tail early wf clocked => ⟨?_, ?_⟩, by decide, ofByte_iff_code, rfl, rfl, by decide⟩
  · rintro f raw rfl
    exact decodeFrame_of_frameOf wf clocked raw fun _ _ e => (Instr.restart.inj e).2
  · intro notRestart raw
    exact decodeFrame_of_frameOf wf clocked raw fun g r e => absurd e (notRestart g r)

end Sys2Proof.Machine

/-! # The reads: their refusals and their payloads (R19, R37, R59, R78, R163, R167) -/

namespace Sys2Proof.Machine

/-! ## A frame that is long enough -/

section Completes

variable {c : Instr} {code : Byte} {n : Nat} {f : Clocked} {body : List Byte → State → Reply × State} {s u : State}

/-- A listed command over an open frame completes with what its body answers on the stored bytes. -/
theorem Commands.completes (h : Commands c code n f body) (ready : s.Ready) (long : n ≤ f.bytes.length + 1) {r : Reply}
    (answer : body (storedBytes code f) s = (r, u)) : s.Completes c (code :: f.bytes) r.status r.payload u := by
  have leaves := (h.answers (storedBytes code f) s).leaves
  rw [answer] at leaves
  exact State.completes_of_body (h.exec s) h.early ready (le_min (h.length_le.trans (by decide)) long) answer
    leaves.running leaves.port

theorem Commands.completes_plain (h : Commands c code n f body) (ready : s.Ready) (long : n ≤ f.bytes.length + 1)
    {st : Status} (answer : body (storedBytes code f) s = (Reply.plain st, u)) :
    s.Completes c (code :: f.bytes) st [] u :=
  h.completes ready long answer

theorem Commands.completes_read (h : Commands c code n f body) (ready : s.Ready) (long : n ≤ f.bytes.length + 1)
    {payload : List Byte} (answer : body (storedBytes code f) s = (Reply.read payload, u)) :
    s.Completes c (code :: f.bytes) .ok payload u :=
  h.completes ready long answer

end Completes

/-! ## The targets of a frame -/

theorem clockedByte_lt (f : Clocked) (i : Nat) : f.byte i < 256 := BitVec.isLt _

theorem segOfByte_val {t : Nat} {x : SegId} (h : t = x.val) : segOfByte (BitVec.ofNat 8 t) = some x := by
  subst h; revert x; decide

theorem linkOfByte_val {t : Nat} {i : LinkId} (h : t = i.val) : linkOfByte (BitVec.ofNat 8 t) = some i := by
  subst h; revert i; decide

theorem bridgeOfByte_val {t : Nat} {b : BridgeId} (h : t = b.val) : bridgeOfByte (BitVec.ofNat 8 t) = some b := by
  subst h; revert b; decide

theorem segOfByte_above {t : Nat} (above : 15 < t) (byte : t < 256) : segOfByte (BitVec.ofNat 8 t) = none := by
  rw [segOfByte, dif_neg]; rw [BitVec.toNat_ofNat]; omega

theorem linkOfByte_above {t : Nat} (above : 23 < t) (byte : t < 256) : linkOfByte (BitVec.ofNat 8 t) = none := by
  rw [linkOfByte, dif_neg]; rw [BitVec.toNat_ofNat]; omega

theorem bridgeOfByte_above {t : Nat} (above : 3 < t) (byte : t < 256) : bridgeOfByte (BitVec.ofNat 8 t) = none := by
  rw [bridgeOfByte, dif_neg]; rw [BitVec.toNat_ofNat]; omega

/-- The target byte of a stored frame. -/
theorem byteAt_target (code : Byte) (f : Clocked) : byteAt (storedBytes code f) 1 = BitVec.ofNat 8 (f.byte 1) :=
  byteAt_storedBytes code f (by decide) (by decide)

section Targets

variable {code : Byte} {f : Clocked}

theorem segTarget {x : SegId} (h : f.byte 1 = x.val) : segOfByte (byteAt (storedBytes code f) 1) = some x := by
  rw [byteAt_target, segOfByte_val h]

theorem linkTarget {i : LinkId} (h : f.byte 1 = i.val) : linkOfByte (byteAt (storedBytes code f) 1) = some i := by
  rw [byteAt_target, linkOfByte_val h]

theorem bridgeTarget {b : BridgeId} (h : f.byte 1 = b.val) : bridgeOfByte (byteAt (storedBytes code f) 1) = some b := by
  rw [byteAt_target, bridgeOfByte_val h]

theorem segTarget_bad (h : 15 < f.byte 1) : segOfByte (byteAt (storedBytes code f) 1) = none := by
  rw [byteAt_target, segOfByte_above h (clockedByte_lt f 1)]

theorem linkTarget_bad (h : 23 < f.byte 1) : linkOfByte (byteAt (storedBytes code f) 1) = none := by
  rw [byteAt_target, linkOfByte_above h (clockedByte_lt f 1)]

theorem bridgeTarget_bad (h : 3 < f.byte 1) : bridgeOfByte (byteAt (storedBytes code f) 1) = none := by
  rw [byteAt_target, bridgeOfByte_above h (clockedByte_lt f 1)]

end Targets

/-! ## The parts of a payload as fields -/

theorem byte_eq (v : Nat) : byte v = bigEndian 1 v := by simp [byte, bigEndian]

theorem singleton_eq (b : Byte) : [b] = bigEndian 1 b.toNat := by simp [bigEndian]

theorem optionalId_eq (v : Option Nat) : optionalId v = bigEndian 1 (v.getD 255) := byte_eq _

theorem layOut_nil : layOut [] = [] := rfl

section Places

variable {fields : List (Nat × Nat)} {widths : List Nat} {i n v : Nat}

/-- A field by its place among the widths of a layout. -/
theorem field_layOut_at (layout : fields.map Prod.fst = widths) (k : Nat) (entry : fields[k]? = some (n, v))
    (place : (widths.take k).sum = i) : field (layOut fields) i n = v % 256 ^ n := by
  rw [← place, ← layout, ← List.map_take]
  exact field_layOut fields k n v entry

/-- A field that its value fits holds it as it is. -/
theorem field_layOut_fits (layout : fields.map Prod.fst = widths) (k : Nat) (entry : fields[k]? = some (n, v))
    (place : (widths.take k).sum = i) (fits : v < 256 ^ n) : field (layOut fields) i n = v := by
  rw [field_layOut_at layout k entry place, Nat.mod_eq_of_lt fits]

theorem layOut_length_eq (layout : fields.map Prod.fst = widths) (total : widths.sum = i) :
    (layOut fields).length = i := by
  rw [layOut_length, layOutWidth, layout, total]

end Places

/-- A bit map of no more flags than its field has bits fits it. -/
theorem bitMap_fits {bits : List Bool} {n : Nat} (wide : bits.length ≤ 8 * n) : bitMap bits < 256 ^ n := calc
  bitMap bits < 2 ^ bits.length := bitMap_lt bits
  _ ≤ 2 ^ (8 * n) := Nat.pow_le_pow_right (by decide) wide
  _ = 256 ^ n := Nat.pow_mul 2 8 n

/-- The weight of a flag in a bit map. -/
theorem weight_eq (b : Bool) (k : Nat) : (if b = true then k else 0) = k * flag b := by cases b <;> simp [flag]

theorem Source.code_lt (v : Source) : v.code < 256 := by cases v <;> decide
theorem Quality.code_lt (v : Quality) : v.code < 256 := by cases v <;> decide
theorem Alarm.code_lt (v : Alarm) : v.code < 256 := by cases v <;> decide
theorem CycleOutcome.code_lt (v : CycleOutcome) : v.code < 256 := by cases v <;> decide
theorem Supervision.code_lt (v : Supervision) : v.code < 256 := by cases v <;> decide
theorem NetState.code_lt (v : NetState) : v.code < 256 := by cases v <;> decide
theorem Reason.code_lt (v : Reason) : v.code < 256 := by cases v <;> decide
theorem Verdict.code_lt (v : Verdict) : v.code < 256 := by cases v <;> decide
theorem BridgeState.code_lt (v : BridgeState) : v.code < 256 := by cases v <;> decide
theorem FaultCause.code_lt (v : FaultCause) : v.code < 256 := by cases v <;> decide
theorem Phase.code_lt (v : Phase) : v.code < 256 := by cases v <;> decide
theorem LinkMode.code_lt (v : LinkMode) : v.code < 256 := by cases v <;> decide
theorem Polarity.code_lt (v : Polarity) : v.code < 256 := by cases v <;> decide
theorem Contact.code_lt (v : Contact) : v.code < 256 := by cases v <;> decide

/-- An optional number that is held and its default fit a field, so the field does. -/
theorem getD_map_lt {α : Type} (o : Option α) (f : α → Nat) (d k : Nat) (held : ∀ a, f a < k) (default : d < k) :
    (o.map f).getD d < k := by
  cases o with
  | none => exact default
  | some a => exact held a

theorem elapsed_lt (now before : Uptime) : elapsed now before < 256 ^ 4 := BitVec.isLt _

theorem resistance_le (g : Nat) : resistance g ≤ 100000 := by
  unfold resistance
  split
  · exact le_rfl
  · rw [Nat.div_le_iff_le_mul_add_pred (by omega)]
    omega

/-! ## READ SEGMENT -/

section ReadSegment

variable (s : State) (x : SegId) (g : Segment)

/-- The fields of READ SEGMENT in their order (R19). -/
def State.segmentFields : List (Nat × Nat) :=
  [(2, g.vMax), (2, g.faultFactor), (2, g.warnFactor), (2, g.validity), (1, g.source.code),
    (1, bitMap [g.latch, g.drive]), (1, (g.bridge.map (·.val)).getD 255),
    (1, ((s.netOf x).map (·.anchor.val)).getD 255), (1, g.quality.code), (4, g.gp), (4, g.gn), (4, g.reported),
    (4, elapsed s.uptime g.attrTime), (1, bitMap [g.stale, g.ext, g.degraded, g.spot.isSome, g.lowMark.isSome]),
    (1, g.alarm.code), (4, g.thresholds.faultOn), (4, g.thresholds.faultOff), (4, g.thresholds.warnOn),
    (4, g.thresholds.warnOff), (4, g.lowMark.getD 0), (4, (g.spot.map (elapsed s.uptime)).getD 0),
    (1, outcomeCode g.lastSpot), (1, g.enables.toNat)]

/-- The widths of these fields in bytes. -/
def segmentWidths : List Nat :=
  [2, 2, 2, 2, 1, 1, 1, 1, 1, 4, 4, 4, 4, 1, 1, 4, 4, 4, 4, 4, 4, 1, 1]

theorem State.segmentFields_widths : (s.segmentFields x g).map Prod.fst = segmentWidths := rfl

theorem State.segmentPayload_eq : s.segmentPayload x g = layOut (s.segmentFields x g) := by
  unfold State.segmentPayload State.segmentFields
  simp only [layOut_cons, layOut_nil, byte_eq, singleton_eq, optionalId_eq,
    ageField, Option.map_some, Option.getD_some, List.append_assoc, List.append_nil]

end ReadSegment

theorem outcomeCode_lt (o : Option CycleOutcome) : outcomeCode o < 256 :=
  getD_map_lt o _ _ _ CycleOutcome.code_lt (by decide)

theorem getElem?_of_field_one {p : List Byte} {i : Nat} {b : Byte} (h : field p i 1 = b.toNat) (inside : i < p.length) :
    p[i]? = some b := by
  have single : (p.drop i).take 1 = [p[i]] := by
    rw [List.drop_eq_getElem_cons inside]; rfl
  rw [field, single, List.foldl_cons, List.foldl_nil, Nat.mul_zero, Nat.zero_add] at h
  rw [List.getElem?_eq_getElem inside, BitVec.eq_of_toNat_eq h]

/-- Settles O10: each value is the field at its place in `State.segmentFields`. -/
theorem readSegmentReports : Obligations.ReadSegmentReports := by
  unfold Obligations.ReadSegmentReports
  intro f s ready long
  have command := Commands.readSegment f
  refine ⟨fun bad => ?_, fun x target => ⟨fun free => ?_, fun g held => ?_⟩⟩
  · exact command.completes_plain ready (by omega) (by simp only [readSegment, segTarget_bad bad])
  · exact command.completes_plain ready (by omega) (by simp only [readSegment, segTarget target, free])
  · refine ⟨s.segmentPayload x g,
      command.completes_read ready (by omega) (by simp only [readSegment, segTarget target, held]), ?_⟩
    rw [s.segmentPayload_eq]
    have at_ (k : Nat) {i w v : Nat} (entry : (s.segmentFields x g)[k]? = some (w, v))
        (place : (segmentWidths.take k).sum = i := by decide) :=
      field_layOut_at (s.segmentFields_widths x g) k entry place
    have fits (k : Nat) {i w v : Nat} (entry : (s.segmentFields x g)[k]? = some (w, v)) (small : v < 256 ^ w)
        (place : (segmentWidths.take k).sum = i := by decide) :=
      field_layOut_fits (s.segmentFields_widths x g) k entry place small
    have length := layOut_length_eq (i := 57) (s.segmentFields_widths x g) (by decide)
    refine ⟨length, at_ 0 rfl, at_ 1 rfl, at_ 2 rfl, at_ 3 rfl, fits 4 rfl g.source.code_lt,
      (fits 5 rfl (bitMap_fits (by simp))).trans ?_,
      fits 6 rfl (getD_map_lt _ _ _ _ (fun b => b.isLt.trans (by decide)) (by decide)),
      fits 7 rfl (getD_map_lt _ _ _ _ (fun n => n.anchor.isLt.trans (by decide)) (by decide)),
      fits 8 rfl g.quality.code_lt, at_ 9 rfl, at_ 10 rfl,
      fits 11 rfl ((resistance_le _).trans_lt (by decide)), fits 12 rfl (elapsed_lt _ _),
      (fits 13 rfl (bitMap_fits (by simp))).trans ?_, fits 14 rfl g.alarm.code_lt, at_ 15 rfl,
      at_ 16 rfl, at_ 17 rfl, at_ 18 rfl, at_ 19 rfl,
      fits 20 rfl (getD_map_lt _ _ _ _ (elapsed_lt _) (by decide)), fits 21 rfl (outcomeCode_lt _), ?_⟩
    · simp only [weight_eq, bitMap, List.foldr]; omega
    · simp only [weight_eq, bitMap, List.foldr]; omega
    · exact getElem?_of_field_one (fits 22 rfl g.enables.isLt) (by rw [length]; decide)

/-! ## READ NET -/

section ReadNet

variable (s : State) (n : Net)

/-- The byte of a bridge in READ NET: its state, 0xFF outside the bridge set (R59). -/
def State.bridgeByte (b : BridgeId) : Nat := if n.bridges.contains b then (s.bridge b).state.code else 0xFF

/-- The fields of READ NET in their order (R59). -/
def State.netFields : List (Nat × Nat) :=
  [(1, n.anchor.val), (2, bitMap (allSegs.map n.members.contains)), (1, bitMap (allBridges.map n.bridges.contains)),
    (1, s.bridgeByte n 0), (1, s.bridgeByte n 1), (1, s.bridgeByte n 2), (1, s.bridgeByte n 3),
    (1, n.supervision.code), (1, n.state.code), (1, (n.reason.map Reason.code).getD 0),
    (2, n.quietRemaining s.uptime),
    (1, bitMap [n.startPending, n.phaseP.isSome, n.phaseP.any (·.overRange), n.phaseP.any (·.unsettled),
        n.cycleStart.isSome]),
    (1, (n.lastGranted.map (·.val)).getD 255), (1, (n.grant.map (·.val)).getD 255),
    (4, (n.cycleStart.map (elapsed s.uptime)).getD 0), (2, (n.phaseP.map (·.up)).getD 0),
    (2, (n.phaseP.map (·.un)).getD 0), (1, outcomeCode (n.lastResult.map (·.outcome))),
    (4, (n.lastResult.bind (·.gp)).getD 0), (4, (n.lastResult.bind (·.gn)).getD 0),
    (2, (n.lastResult.bind (·.s1)).getD 0), (2, (n.lastResult.bind (·.s2)).getD 0),
    (4, ((n.lastResult.map (·.time)).map (elapsed s.uptime)).getD 0),
    (1, if n.state = .external then (s.verdict n.members).code else 0xFF), (1, bitMap (s.ext.toList.map (·.level)))]

/-- The widths of these fields in bytes. -/
def netWidths : List Nat :=
  [1, 2, 1, 1, 1, 1, 1, 1, 1, 1, 2, 1, 1, 1, 4, 2, 2, 1, 4, 4, 2, 2, 4, 1, 1]

theorem State.netFields_widths : (s.netFields n).map Prod.fst = netWidths := rfl

theorem State.bridgeBytes_eq :
    allBridges.map (fun b => BitVec.ofNat 8 (s.bridgeByte n b)) =
      bigEndian 1 (s.bridgeByte n 0) ++ (bigEndian 1 (s.bridgeByte n 1) ++
        (bigEndian 1 (s.bridgeByte n 2) ++ bigEndian 1 (s.bridgeByte n 3))) := by
  simp [allBridges, bigEndian]

theorem State.netPayload_eq : s.netPayload n = layOut (s.netFields n) := by
  have bridges := s.bridgeBytes_eq n
  simp only [State.bridgeByte] at bridges
  unfold State.netPayload State.netFields
  simp only [State.bridgeByte, bridges, layOut_cons, layOut_nil, byte_eq, optionalId_eq, ageField, List.append_assoc,
    List.append_nil]

theorem State.bridgeByte_lt (b : BridgeId) : s.bridgeByte n b < 256 := by
  unfold State.bridgeByte
  split
  · exact BridgeState.code_lt _
  · decide

/-- The byte of a bridge lies behind the four bytes of the anchor and the two bit maps. -/
theorem State.field_bridgeByte (b : BridgeId) : field (layOut (s.netFields n)) (4 + b.val) 1 = s.bridgeByte n b := by
  match b with
  | 0 => exact field_layOut_fits (s.netFields_widths n) 3 rfl (by decide) (s.bridgeByte_lt n 0)
  | 1 => exact field_layOut_fits (s.netFields_widths n) 4 rfl (by decide) (s.bridgeByte_lt n 1)
  | 2 => exact field_layOut_fits (s.netFields_widths n) 5 rfl (by decide) (s.bridgeByte_lt n 2)
  | 3 => exact field_layOut_fits (s.netFields_widths n) 6 rfl (by decide) (s.bridgeByte_lt n 3)

end ReadNet

theorem testBit_bitMap_allBridges (v : BridgeId → Bool) (b : BridgeId) :
    (bitMap (allBridges.map v)).testBit b.val = v b := by
  have entry : allBridges[b.val]? = some b := by revert b; decide
  rw [testBit_bitMap, List.getD_eq_getElem?_getD, List.getElem?_map, entry, Option.map_some, Option.getD_some]

theorem extLevels_eq (s : State) : s.ext.toList.map (·.level) = [(s.ext[0]).level, (s.ext[1]).level] := by
  apply List.ext_getElem
  · simp
  · intro i h _
    have : i < 2 := by simpa using h
    match i with
    | 0 => simp
    | 1 => simp

/-- Settles O11: each value is the field at its place in `State.netFields`. -/
theorem readNetReports : Obligations.ReadNetReports := by
  unfold Obligations.ReadNetReports
  intro f s ready long
  have command := Commands.readNet f
  refine ⟨fun bad => ?_, fun x target => ⟨fun free => ?_, fun g n held net => ?_⟩⟩
  · exact command.completes_plain ready (by omega) (by simp only [readNet, segTarget_bad bad])
  · exact command.completes_plain ready (by omega) (by simp only [readNet, segTarget target, free])
  · refine ⟨s.netPayload n,
      command.completes_read ready (by omega) (by simp only [readNet, segTarget target, held, net]), ?_⟩
    rw [s.netPayload_eq]
    have at_ (k : Nat) {i w v : Nat} (entry : (s.netFields n)[k]? = some (w, v))
        (place : (netWidths.take k).sum = i := by decide) :=
      field_layOut_at (s.netFields_widths n) k entry place
    have fits (k : Nat) {i w v : Nat} (entry : (s.netFields n)[k]? = some (w, v)) (small : v < 256 ^ w)
        (place : (netWidths.take k).sum = i := by decide) :=
      field_layOut_fits (s.netFields_widths n) k entry place small
    refine ⟨layOut_length_eq (s.netFields_widths n) (by decide), fits 0 rfl (n.anchor.isLt.trans (by decide)), fun y => ?_, fun b => ?_, fun b => ?_,
      fits 7 rfl n.supervision.code_lt, fits 8 rfl n.state.code_lt,
      fits 9 rfl (getD_map_lt _ _ _ _ Reason.code_lt (by decide)), at_ 10 rfl,
      (fits 11 rfl (bitMap_fits (by simp))).trans ?_,
      fits 12 rfl (getD_map_lt _ _ _ _ (fun b => b.isLt.trans (by decide)) (by decide)),
      fits 13 rfl (getD_map_lt _ _ _ _ (fun b => b.isLt.trans (by decide)) (by decide)),
      fits 14 rfl (getD_map_lt _ _ _ _ (elapsed_lt _) (by decide)), at_ 15 rfl, at_ 16 rfl,
      (fits 17 rfl (outcomeCode_lt _)).trans ?_, at_ 18 rfl, at_ 19 rfl, at_ 20 rfl, at_ 21 rfl,
      (fits 22 rfl (getD_map_lt _ _ _ _ (elapsed_lt _) (by decide))).trans ?_, fits 23 rfl ?_,
      (fits 24 rfl ?_).trans ?_⟩
    · exact (congrArg (Nat.testBit · y.val) (fits 1 rfl (bitMap_allSegs_lt _))).trans (testBit_bitMap_allSegs _ y)
    · exact (congrArg (Nat.testBit · b.val) (fits 2 rfl (bitMap_fits (by simp [allBridges])))).trans
        (testBit_bitMap_allBridges _ b)
    · rw [s.field_bridgeByte n b]
      simp [State.bridgeByte]
    · simp only [weight_eq, bitMap, List.foldr]; omega
    · simp [outcomeCode, Function.comp_def]
    · simp [elapsed, Function.comp_def]
    · split
      · exact Verdict.code_lt _
      · decide
    · exact bitMap_fits (by simp)
    · rw [extLevels_eq]; simp only [weight_eq, bitMap, List.foldr]; omega

/-! ## READ LINK -/

section ReadLink

variable (s : State) (l : Link)

/-- The byte of the sensed state; for none a free value (assumption log 4). -/
def Link.sensedByte : Nat :=
  match l.sensed with
  | some c => c.code
  | none => Config.absentSensedByte.toNat

/-- The fields of READ LINK in their order (R37). -/
def State.linkFields : List (Nat × Nat) :=
  [(1, l.endA.val), (1, l.endB.val), (1, l.mode.code), (1, (l.aux.map (·.val)).getD 255),
    (1, (l.polarity.map Polarity.code).getD 255), (1, l.declared.code), (1, l.sensedByte), (1, l.effective.code),
    (1, bitMap [l.disagreeFlag, l.disagreeStart.isSome, l.aux.any fun a => (s.aux[a]).level]),
    (4, (l.disagreeStart.map (elapsed s.uptime)).getD 0)]

/-- The widths of these fields in bytes. -/
def linkWidths : List Nat :=
  [1, 1, 1, 1, 1, 1, 1, 1, 1, 4]

theorem State.linkFields_widths : (s.linkFields l).map Prod.fst = linkWidths := rfl

theorem Link.sensedByte_eq :
    [match l.sensed with | some c => BitVec.ofNat 8 c.code | none => Config.absentSensedByte] =
      bigEndian 1 l.sensedByte := by
  unfold Link.sensedByte
  cases l.sensed <;> simp [bigEndian]

theorem State.linkPayload_eq : s.linkPayload l = layOut (s.linkFields l) := by
  have sensed := l.sensedByte_eq
  unfold State.linkPayload State.linkFields
  simp only [layOut_cons, layOut_nil, byte_eq, optionalId_eq, ageField,
    List.append_assoc, List.append_nil, ← sensed] <;> rfl

end ReadLink

/-- Settles O12: each value is the field at its place in `State.linkFields`. -/
theorem readLinkReports : Obligations.ReadLinkReports := by
  unfold Obligations.ReadLinkReports
  intro f s ready long
  have command := Commands.readLink f
  refine ⟨fun bad => ?_, fun i target => ⟨fun free => ?_, fun l held => ?_⟩⟩
  · exact command.completes_plain ready (by omega) (by simp only [readLink, linkTarget_bad bad])
  · exact command.completes_plain ready (by omega) (by simp only [readLink, linkTarget target, free])
  · refine ⟨s.linkPayload l,
      command.completes_read ready (by omega) (by simp only [readLink, linkTarget target, held]), ?_⟩
    rw [s.linkPayload_eq]
    have fits (k : Nat) {i w v : Nat} (entry : (s.linkFields l)[k]? = some (w, v)) (small : v < 256 ^ w)
        (place : (linkWidths.take k).sum = i := by decide) :=
      field_layOut_fits (s.linkFields_widths l) k entry place small
    have sensed (c : Contact) (h : l.sensed = some c) : l.sensedByte = c.code := by simp only [Link.sensedByte, h]
    refine ⟨layOut_length_eq (s.linkFields_widths l) (by decide), fits 0 rfl (l.endA.isLt.trans (by decide)),
      fits 1 rfl (l.endB.isLt.trans (by decide)), fits 2 rfl l.mode.code_lt,
      fits 3 rfl (getD_map_lt _ _ _ _ (fun a => a.isLt.trans (by decide)) (by decide)),
      fits 4 rfl (getD_map_lt _ _ _ _ Polarity.code_lt (by decide)), fits 5 rfl l.declared.code_lt,
      fun c h => (fits 6 rfl (by rw [sensed c h]; exact c.code_lt)).trans (sensed c h),
      fits 7 rfl l.effective.code_lt, (fits 8 rfl (bitMap_fits (by simp))).trans ?_,
      fits 9 rfl (getD_map_lt _ _ _ _ (elapsed_lt _) (by decide))⟩
    simp only [weight_eq, bitMap, List.foldr]; omega

/-! ## READ BRIDGE -/

/-- The fields of READ BRIDGE in their order (R78). -/
def State.bridgeFields (s : State) (b : Bridge) : List (Nat × Nat) :=
  [(1, b.state.code), (1, b.phase.code), (1, bitMap [b.crossing, b.drvP, b.drvN, b.snsP, b.snsN, b.overRange]),
    (4, elapsed s.uptime b.entryTime), (1, (b.attached.map (·.val)).getD 255),
    (1, (b.cause.map FaultCause.code).getD 0), (2, b.up), (2, b.un)]

/-- The widths of these fields in bytes. -/
def bridgeWidths : List Nat :=
  [1, 1, 1, 4, 1, 1, 2, 2]

theorem State.bridgeFields_widths (s : State) (b : Bridge) : (s.bridgeFields b).map Prod.fst = bridgeWidths := rfl

theorem State.bridgePayload_eq (s : State) (b : Bridge) : s.bridgePayload b = layOut (s.bridgeFields b) := by
  unfold State.bridgePayload State.bridgeFields
  simp only [layOut_cons, layOut_nil, byte_eq, optionalId_eq, ageField,
    Option.map_some, Option.getD_some, List.append_assoc, List.append_nil]

/-- Settles O13: each value is the field at its place in `State.bridgeFields`. -/
theorem readBridgeReports : Obligations.ReadBridgeReports := by
  unfold Obligations.ReadBridgeReports
  intro f s ready long
  have command := Commands.readBridge f
  refine ⟨fun bad => ?_, fun b target => ?_⟩
  · exact command.completes_plain ready (by omega) (by simp only [readBridge, bridgeTarget_bad bad])
  · refine ⟨s.bridgePayload (s.bridge b),
      command.completes_read ready (by omega) (by simp only [readBridge, bridgeTarget target]), ?_⟩
    rw [s.bridgePayload_eq]
    have at_ (k : Nat) {i w v : Nat} (entry : (s.bridgeFields (s.bridge b))[k]? = some (w, v))
        (place : (bridgeWidths.take k).sum = i := by decide) :=
      field_layOut_at (s.bridgeFields_widths (s.bridge b)) k entry place
    have fits (k : Nat) {i w v : Nat} (entry : (s.bridgeFields (s.bridge b))[k]? = some (w, v)) (small : v < 256 ^ w)
        (place : (bridgeWidths.take k).sum = i := by decide) :=
      field_layOut_fits (s.bridgeFields_widths (s.bridge b)) k entry place small
    refine ⟨layOut_length_eq (s.bridgeFields_widths (s.bridge b)) (by decide), fits 0 rfl (BridgeState.code_lt _), fits 1 rfl (Phase.code_lt _),
      (fits 2 rfl (bitMap_fits (by simp))).trans ?_, fits 3 rfl (elapsed_lt _ _),
      fits 4 rfl (getD_map_lt _ _ _ _ (fun x => x.isLt.trans (by decide)) (by decide)),
      fits 5 rfl (getD_map_lt _ _ _ _ FaultCause.code_lt (by decide)), at_ 6 rfl, at_ 7 rfl⟩
    simp only [weight_eq, bitMap, List.foldr]; omega

/-! ## READ TRIM -/

/-- The number in the field of a gain word (assumption log 5). -/
def gainValue (gain : Nat) : Nat := if gain < 65536 then gain else (Config.wideGainField gain).toNat

/-- The fields of READ TRIM in their order (R167). -/
def Bridge.trimFields (b : Bridge) : List (Nat × Nat) :=
  [(2, b.trim.refP.toNat), (2, b.trim.refN.toNat), (2, gainValue b.trim.gainP.toNat),
    (2, gainValue b.trim.gainN.toNat), (1, flag !b.trimPassed), (4, (b.references.map (·.grP)).getD 0),
    (4, (b.references.map (·.grN)).getD 0)]

/-- The widths of these fields in bytes. -/
def trimWidths : List Nat :=
  [2, 2, 2, 2, 1, 4, 4]

theorem Bridge.trimFields_widths (b : Bridge) : b.trimFields.map Prod.fst = trimWidths := rfl

theorem Bridge.trimPayload_eq (b : Bridge) : b.trimPayload = layOut b.trimFields := by
  unfold Bridge.trimPayload Bridge.trimFields
  simp only [gainField, gainValue, layOut_cons, layOut_nil, byte_eq,
    List.append_assoc, List.append_nil]

/-- Settles O14: each value is the field at its place in `Bridge.trimFields`. -/
theorem readTrimReports : Obligations.ReadTrimReports := by
  unfold Obligations.ReadTrimReports
  intro f s ready long
  have command := Commands.readTrim f
  refine ⟨fun bad => ?_, fun b target => ?_⟩
  · exact command.completes_plain ready (by omega) (by simp only [readTrim, bridgeTarget_bad bad])
  · refine ⟨(s.bridge b).trimPayload,
      command.completes_read ready (by omega) (by simp only [readTrim, bridgeTarget target]), ?_⟩
    rw [Bridge.trimPayload_eq]
    have at_ (k : Nat) {i w v : Nat} (entry : (s.bridge b).trimFields[k]? = some (w, v))
        (place : (trimWidths.take k).sum = i := by decide) :=
      field_layOut_at (s.bridge b).trimFields_widths k entry place
    have fits (k : Nat) {i w v : Nat} (entry : (s.bridge b).trimFields[k]? = some (w, v)) (small : v < 256 ^ w)
        (place : (trimWidths.take k).sum = i := by decide) :=
      field_layOut_fits (s.bridge b).trimFields_widths k entry place small
    have narrow (gain : Nat) (h : gain < 65536) : gainValue gain = gain := if_pos h
    refine ⟨layOut_length_eq (s.bridge b).trimFields_widths (by decide), fits 0 rfl (BitVec.isLt _), fits 1 rfl (BitVec.isLt _),
      fun h => (fits 2 rfl ((narrow _ h).trans_lt h)).trans (narrow _ h),
      fun h => (fits 3 rfl ((narrow _ h).trans_lt h)).trans (narrow _ h),
      (fits 4 (v := flag !(s.bridge b).trimPassed) rfl ?_).trans ?_, at_ 5 rfl, at_ 6 rfl⟩
    · cases (s.bridge b).trimPassed <;> decide
    · cases (s.bridge b).trimPassed <;> rfl

end Sys2Proof.Machine

/-! # Notices, timing, resets, and the guards of the events (R129 to R131, R148, R154, R161, R166, R168, R169) -/

namespace Sys2Proof.Machine

/-! ## A taken event -/

section Happens

variable {s u : State} {c : Instr} {due : Bool} {effect : State → State}

/-- A due event outside a reset happens with its effect; the lines follow it. -/
theorem Occurs.happens (h : Occurs s c due effect) (up : s.Running) (isDue : due = true) (same : effect s = u) :
    s.Happens c u := by
  have leaves := h.leaves
  have running : (effect s).running = true := leaves.running.trans (s.running_iff.mpr up)
  obtain ⟨faultLine, alert⟩ := (effect s).refreshLines_lines running
  refine ⟨(effect s).refreshLines, ?_, by rw [State.refreshLines_port, leaves.port], ?_, fun opened => ?_,
    fun closed => ?_, by rw [State.records_refreshLines, same]⟩
  · rw [h.exec, State.event_due s effect due (s.running_iff.mpr up) isDue]
  · rw [faultLine, State.faultHeld_refreshLines, State.faultCondition_iff]
  · rw [alert, leaves.port, opened, if_pos rfl, leaves.alert]
  · rw [alert, leaves.port, closed, if_neg Bool.false_ne_true, State.alertHeld_refreshLines, State.alertCondition_iff]

theorem Occurs.stays (h : Occurs s c due effect) (notDue : due = false) : Machine.exec c s = .next s := by
  rw [h.exec, State.event_not_due s effect due (.inr notDue)]

end Happens

/-! ## SET NOTICE ENABLES -/

/-- A removal of nothing and an addition of a kind never disable the comparator. -/
theorem warnComparator_of_add {e : BitVec 8} (m : BitVec 8) (h : warnComparator e = true) :
    warnComparator (e ||| m) = true := by
  rw [warnComparator_iff] at h ⊢
  intro clear
  apply h
  have parts : (e &&& 0x30#8) ||| (m &&& 0x30#8) = 0#8 := by
    rw [← clear]
    ext i hi
    simp [Bool.and_or_distrib_right]
  exact (BitVec.or_eq_zero_iff.mp parts).1

/-- An addition has the evaluation of R131 as its only effect on the alarm: the forced exit of R130 needs a comparator that
was enabled and is disabled. -/
theorem Segment.setEnables_add (g : Segment) (m : BitVec 8) :
    g.setEnables (g.enables ||| m) =
      if g.enables &&& 0x30#8 = 0#8 ∧ (g.enables ||| m) &&& 0x30#8 ≠ 0#8 ∧ g.alarm = .clear then
        ({ g with enables := g.enables ||| m } : Segment).evaluate
      else { g with enables := g.enables ||| m } := by
  have notDisabled : (warnComparator g.enables && !warnComparator (g.enables ||| m)) = false := by
    cases before : warnComparator g.enables with
    | false => rfl
    | true => rw [warnComparator_of_add m before]; rfl
  have enabled : (!warnComparator g.enables && warnComparator (g.enables ||| m)) = true ↔
      g.enables &&& 0x30#8 = 0#8 ∧ (g.enables ||| m) &&& 0x30#8 ≠ 0#8 := by
    rw [Bool.and_eq_true, Bool.not_eq_true', ← Bool.not_eq_true, warnComparator_iff, warnComparator_iff, not_not]
  simp only [Segment.setEnables, Segment.switchComparator, notDisabled, ← and_assoc, ← enabled]
  by_cases enters : (!warnComparator g.enables && warnComparator (g.enables ||| m)) = true
  · by_cases clear : g.alarm = .clear <;> simp [enters, clear]
  · simp [enters]

theorem setNoticeEnables_storedBytes (f : Clocked) (s : State) :
    setNoticeEnables (storedBytes 0x40#8 f) s =
      changeEnables (· ||| BitVec.ofNat 8 (f.byte 2)) (· ||| BitVec.ofNat 4 (f.byte 2)) (BitVec.ofNat 8 (f.byte 1)) s := by
  have narrow : (BitVec.ofNat 8 (f.byte 2)).setWidth 4 = BitVec.ofNat 4 (f.byte 2) :=
    BitVec.setWidth_ofNat_of_le (by decide) _
  rw [setNoticeEnables, byteAt_target, byteAt_storedBytes _ f (by decide) (by decide), narrow]

/-- Settles O16: one case per target; on a record the addition is `Segment.setEnables_add`. -/
theorem setNoticeEnablesAdds : Obligations.SetNoticeEnablesAdds := by
  unfold Obligations.SetNoticeEnablesAdds
  intro f s set ready long hset
  have adds (g : Segment) : g.setEnables (g.enables ||| BitVec.ofNat 8 (f.byte 2)) = set g := by
    rw [hset, Segment.setEnables_add]
  have completes {st : Status} {u : State}
      (answer : changeEnables (· ||| BitVec.ofNat 8 (f.byte 2)) (· ||| BitVec.ofNat 4 (f.byte 2))
        (BitVec.ofNat 8 (f.byte 1)) s = (Reply.plain st, u)) :=
    (Commands.setNoticeEnables f).completes_plain ready (by omega) ((setNoticeEnables_storedBytes f s).trans answer)
  refine ⟨fun above below => ?_, fun x target => ⟨fun free => ?_, fun g held => ?_⟩, fun target => ?_, fun target => ?_⟩
  · exact completes (changeEnables_bad (noticeTargetOfByte_bad above below))
  · exact completes (changeEnables_free (noticeTargetOfByte_segment x target) free)
  · rw [← adds g]
    exact completes (changeEnables_defined (noticeTargetOfByte_segment x target) held)
  · simp only [← adds]
    exact completes (changeEnables_allSegments (by rw [target]; decide))
  · exact completes (changeEnables_device (by rw [target]; decide))

/-! ## SET TIMING -/

/-- The parameter words that the receive buffer stores are those of the frame. -/
theorem wordAt_storedBytes (code : Byte) (f : Clocked) {i : Nat} (first : 1 ≤ i) (stored : i + 1 < 64) :
    wordAt (storedBytes code f) i = f.word i := by
  have number (k : Nat) : (BitVec.ofNat 8 (f.byte k)).toNat = f.byte k := by
    rw [BitVec.toNat_ofNat, Nat.mod_eq_of_lt (clockedByte_lt f k)]
  rw [wordAt, byteAt_storedBytes code f first (by omega), byteAt_storedBytes code f (by omega) stored, number, number,
    Clocked.word]

/-- The parameters of a SET TIMING frame. -/
theorem timingAt_storedBytes (code : Byte) (f : Clocked) :
    timingAt (storedBytes code f) =
      { minDwell := f.word 2, maxDwell := f.word 4, epsilon := f.word 6, spacing := f.word 8, quiet := f.word 10,
        debounce := f.word 12, agreement := f.word 14, lowVoltage := f.word 16 } := by
  simp only [timingAt, wordAt_storedBytes code f (i := 2) (by decide) (by decide),
    wordAt_storedBytes code f (i := 4) (by decide) (by decide), wordAt_storedBytes code f (i := 6) (by decide) (by decide),
    wordAt_storedBytes code f (i := 8) (by decide) (by decide), wordAt_storedBytes code f (i := 10) (by decide) (by decide),
    wordAt_storedBytes code f (i := 12) (by decide) (by decide), wordAt_storedBytes code f (i := 14) (by decide) (by decide),
    wordAt_storedBytes code f (i := 16) (by decide) (by decide)]

/-- The status of clamped parameters tells whether they differ from those sent (R162). -/
theorem clampStatus_bne {α : Type} [DecidableEq α] {a b : α} {p : Prop} [Decidable p] (h : a = b ↔ p) :
    clampStatus (a != b) = if p then .ok else .clamped := by
  by_cases same : a = b
  · simp [same, h.mp same, clampStatus]
  · simp [same, mt h.mpr same, clampStatus]

/-- Settles O18: the parameters named are the clamped ones. -/
theorem setTimingClamps : Obligations.SetTimingClamps := by
  unfold Obligations.SetTimingClamps
  intro f s t ready long minDwell maxDwell epsilon spacing quiet debounce agreement lowVoltage
  have clamped : (timingAt (storedBytes 0x50#8 f)).clamp = t := by
    obtain ⟨_, _, _, _, _, _, _, _⟩ := t
    dsimp only at minDwell maxDwell epsilon spacing quiet debounce agreement lowVoltage
    subst minDwell maxDwell epsilon spacing quiet debounce agreement lowVoltage
    rw [timingAt_storedBytes, Timing.clamp]
    simp only [clampTo, Nat.zero_max]
  refine (Commands.setTiming f).completes_plain ready (by omega) ?_
  simp only [setTiming, clamped]
  rw [clampStatus_bne (by rw [timingAt_storedBytes, Timing.mk.injEq])]

/-! ## The notices of a reset (R154) -/

section ResetNotices

variable (s : State)

/-- The bridges whose last trim check failed. -/
def State.failedTrims : List BridgeId := allBridges.filter fun b => !(s.bridge b).trimPassed

theorem State.mem_failedTrims (b : BridgeId) : b ∈ s.failedTrims ↔ (s.bridge b).trimPassed = false := by
  simp [State.failedTrims, mem_allBridges]

theorem State.failedTrims_nodup : s.failedTrims.Nodup := List.Nodup.filter _ (by decide)

/-- A raise of TRIM_FAULT for each bridge of a list: from the second one on the kind is already pending (R143). -/
theorem foldl_raise_trimFault (bs : List BridgeId) (t : State) :
    bs.foldl (fun u _ => u.raiseDevice .trimFault) t =
      { t with
        devPending := if bs = [] then t.devPending else t.devPending ||| 0b0010#4,
        devRepeated := t.devRepeated || (decide (bs ≠ []) && t.devPending &&& 0b0010#4 != 0#4)
          || decide (2 ≤ bs.length) } := by
  induction bs generalizing t with
  | nil => simp
  | cons b bs ih =>
    have raisedAgain : (t.devPending ||| 0b0010#4) ||| 0b0010#4 = t.devPending ||| 0b0010#4 := by
      rw [BitVec.or_assoc, BitVec.or_self]
    have held : (t.devPending ||| 0b0010#4) &&& 0b0010#4 != 0#4 := by
      generalize t.devPending = p; revert p; decide
    rw [List.foldl_cons, ih]
    cases bs <;> simp [State.raiseDevice, DevNotice.bit, raisedAgain, held]

theorem State.resetNotices_eq :
    s.resetNotices =
      { s with
        devEnables := 0b1111#4, devPending := if s.failedTrims = [] then 0b0001#4 else 0b0011#4,
        devRepeated := decide (2 ≤ s.failedTrims.length) } := by
  rw [State.resetNotices, foldl_raise_trimFault]
  simp only [State.raiseDevice, DevNotice.bit, State.failedTrims]
  have noRepeat (p : Bool) : (false || 0#4 &&& 1#4 != 0#4 || (p && (0#4 ||| 1#4) &&& 2#4 != 0#4)) = false := by
    cases p <;> rfl
  congr 1
  exact (congrArg (· || _) (noRepeat _)).trans (Bool.false_or _)

theorem State.failedTrims_eq_nil_iff : s.failedTrims = [] ↔ ¬ ∃ b, (s.bridge b).trimPassed = false := by
  simp [List.eq_nil_iff_forall_not_mem, State.mem_failedTrims]

/-- Two trim checks have failed exactly when two different bridges say so. -/
theorem State.two_le_failedTrims_iff : 2 ≤ s.failedTrims.length ↔
    ∃ b c, b ≠ c ∧ (s.bridge b).trimPassed = false ∧ (s.bridge c).trimPassed = false := by
  simp only [← State.mem_failedTrims]
  have nodup := s.failedTrims_nodup
  cases failed : s.failedTrims with
  | nil => simp
  | cons b bs =>
    rw [failed] at nodup
    cases bs with
    | nil => simp [eq_comm]
    | cons c cs =>
      have distinct : b ≠ c := by simp only [List.nodup_cons, List.mem_cons, not_or] at nodup; exact nodup.1.1
      simpa using ⟨b, c, distinct, by simp⟩

end ResetNotices

/-! ## RESTART -/

/-- The fields of a state whose records are those that the notices of a reset leave. -/
theorem fields_of_resetNotices {t u : State} (h : t.records = u.resetNotices.records) :
    t.pending = u.pending ∧ t.supplyValid = u.supplyValid ∧ t.resetHigh = u.resetHigh ∧ t.uptime = u.uptime ∧
    t.segs = u.segs ∧ t.links = u.links ∧ t.nets = u.nets ∧ t.bridges = u.bridges ∧ t.aux = u.aux ∧ t.ext = u.ext ∧
    t.timing = u.timing ∧ t.devPending = (if u.failedTrims = [] then 0b0001#4 else 0b0011#4) ∧
    t.devEnables = 0b1111#4 ∧ t.devRepeated = decide (2 ≤ u.failedTrims.length) := by
  rw [u.resetNotices_eq] at h
  simp only [State.records, State.mk.injEq] at h
  simp only [h, and_self]

theorem State.seg_clearRecords (s : State) (raw : RawContacts) (x : SegId) : (s.clearRecords raw).seg x = none := by
  simp [State.clearRecords, State.seg]

theorem State.link_clearRecords (s : State) (raw : RawContacts) (i : LinkId) : (s.clearRecords raw).link i = none := by
  simp [State.clearRecords, State.link]

theorem auxFilters_getElem (raw : RawContacts) (i : AuxLine) :
    (auxFilters raw)[i] = { level := raw.aux.getLsbD i.val, run := 0, due := false } := by
  simp [auxFilters]

theorem extFilters_getElem (raw : RawContacts) (i : ExtLine) :
    (extFilters raw)[i] = { level := raw.ext.getLsbD i.val, run := 0, due := false } := by
  simp [extFilters]

/-- The tables that every reset clears, written out (R21, R31, R38, R39, R60). -/
theorem State.cleared_of_fields {s t : State} {raw : RawContacts} (segs : t.segs = (s.clearRecords raw).segs)
    (links : t.links = (s.clearRecords raw).links) (nets : t.nets = (s.clearRecords raw).nets)
    (timing : t.timing = (s.clearRecords raw).timing) (aux : t.aux = (s.clearRecords raw).aux)
    (ext : t.ext = (s.clearRecords raw).ext) :
    (∀ x, t.seg x = none) ∧ (∀ i, t.link i = none) ∧ t.nets = [] ∧ t.timing = Timing.reset ∧
    (∀ i : AuxLine, t.aux[i] = { level := raw.aux.getLsbD i.val, run := 0, due := false }) ∧
    (∀ i : ExtLine, t.ext[i] = { level := raw.ext.getLsbD i.val, run := 0, due := false }) := by
  refine ⟨fun x => ?_, fun i => ?_, nets, timing, fun i => ?_, fun i => ?_⟩
  · rw [State.seg, segs]; exact s.seg_clearRecords raw x
  · rw [State.link, links]; exact s.link_clearRecords raw i
  · simp only [aux]; exact auxFilters_getElem raw i
  · simp only [ext]; exact extFilters_getElem raw i

theorem State.bridge_ofFn {t : State} {f : BridgeId → Bridge} (h : t.bridges = Vector.ofFn f) (b : BridgeId) :
    t.bridge b = f b := by
  simp [State.bridge, h]

theorem not_faultHeld_of_free {t : State} (free : ∀ x, t.seg x = none) : ¬ t.FaultHeld := by
  rintro ⟨x, g, held, -⟩
  rw [free x] at held
  cases held

/-- RESTARTED is pending and enabled in a state with the notices of a reset. -/
theorem alertHeld_of_reset {t : State} {p : Prop} [Decidable p]
    (devPending : t.devPending = if p then 0b0001#4 else 0b0011#4) (devEnables : t.devEnables = 0b1111#4) :
    t.AlertHeld := by
  refine .inr ?_
  rw [devPending, devEnables]
  split <;> decide

/-- The device notices of a reset, by the bridges after it (R154). -/
theorem devNotices_of_failedTrims {t u : State} (bridges : t.bridges = u.bridges)
    (devPending : t.devPending = if u.failedTrims = [] then 0b0001#4 else 0b0011#4)
    (devRepeated : t.devRepeated = decide (2 ≤ u.failedTrims.length)) :
    t.devPending = (if ∃ b, (t.bridge b).trimPassed = false then 0b0011#4 else 0b0001#4) ∧
    (t.devRepeated = true ↔ ∃ b c, b ≠ c ∧ (t.bridge b).trimPassed = false ∧ (t.bridge c).trimPassed = false) := by
  have same (b : BridgeId) : u.bridge b = t.bridge b := by rw [State.bridge, State.bridge, bridges]
  refine ⟨?_, ?_⟩
  · simp only [devPending, u.failedTrims_eq_nil_iff, same, ite_not]
  · simp only [devRepeated, decide_eq_true_eq, u.two_le_failedTrims_iff, same]

/-- Settles O19: the frame completes with the cleared records, the fresh bridges and the notices of a reset. -/
theorem restartClearsThePart : Obligations.RestartClearsThePart := by
  unfold Obligations.RestartClearsThePart
  intro f raw s ready long
  obtain ⟨t, next, port, faultLine, alert, records⟩ :=
    (Commands.restart f raw).completes_plain (st := .ok) (u := s.restart raw) ready (by omega) rfl
  obtain ⟨pending, supplyValid, resetHigh, uptime, segs, links, nets, bridges, aux, ext, timing, devPending, devEnables,
    devRepeated⟩ := fields_of_resetNotices records
  obtain ⟨free, noLink, noNet, defaults, auxLevels, extLevels⟩ :=
    State.cleared_of_fields (s := s) (raw := raw) segs links nets timing aux ext
  have restarted (b : BridgeId) : t.bridge b = (s.bridge b).restart s.uptime := State.bridge_ofFn bridges b
  have trims (b : BridgeId) : (t.bridge b).trimPassed = (s.bridge b).trimPassed := by rw [restarted b]; rfl
  obtain ⟨pendingKinds, repeats⟩ := devNotices_of_failedTrims bridges devPending devRepeated
  simp only [trims] at pendingKinds repeats
  exact ⟨t, next, port, pending, supplyValid.trans ready.1.1, resetHigh.trans ready.1.2, uptime, free, noLink, noNet,
    defaults, auxLevels, extLevels, restarted, devEnables, pendingKinds, repeats,
    alert.mpr (alertHeld_of_reset devPending devEnables),
    Bool.not_eq_true _ ▸ mt faultLine.mp (not_faultHeld_of_free free)⟩

/-! ## The other resets -/

theorem Trim.valid_iff (t : Trim) : t.valid = true ↔
    (5000 ≤ t.refP.toNat ∧ t.refP.toNat ≤ 50000) ∧ (5000 ≤ t.refN.toNat ∧ t.refN.toNat ≤ 50000) ∧
    (58982 ≤ t.gainP.toNat ∧ t.gainP.toNat ≤ 72090) ∧ (58982 ≤ t.gainN.toNat ∧ t.gainN.toNat ≤ 72090) := by
  simp only [Trim.valid, inRange, Bool.and_eq_true, decide_eq_true_eq, and_assoc]
  rfl

theorem Bridge.powerUp_passed {b : Bridge} (h : b.trim.valid = true) :
    b.powerUp = { Bridge.reset with
      trim := b.trim,
      references := some { grP := referenceConductance b.trim.refP.toNat, grN := referenceConductance b.trim.refN.toNat } } := by
  simp [Bridge.powerUp, Bridge.reset, Trim.references, h]

theorem Bridge.powerUp_failed {b : Bridge} (h : b.trim.valid = false) :
    b.powerUp = { Bridge.reset with
      state := .faulted, cause := some .trim, trim := b.trim, trimPassed := false, references := none } := by
  simp [Bridge.powerUp, Bridge.reset, Trim.references, h]

/-- The state of a part that starts afresh, written out (R169). -/
theorem State.startAfresh_fresh (s : State) (raw : RawContacts) (up : s.running = true) :
    ∀ t, t = s.startAfresh raw → t.pending = s.pending ∧ t.Running ∧ t.uptime = 0#32 ∧ (∀ x, t.seg x = none) ∧
      (∀ i, t.link i = none) ∧ t.nets = [] ∧ t.timing = Timing.reset ∧
      (∀ i : AuxLine, t.aux[i] = { level := raw.aux.getLsbD i.val, run := 0, due := false }) ∧
      (∀ i : ExtLine, t.ext[i] = { level := raw.ext.getLsbD i.val, run := 0, due := false }) ∧
      (∀ b, t.bridge b = (s.bridge b).powerUp) ∧ t.devEnables = 0b1111#4 ∧
      t.devPending = (if ∃ b, (t.bridge b).trimPassed = false then 0b0011#4 else 0b0001#4) ∧
      (t.devRepeated = true ↔ ∃ b c, b ≠ c ∧ (t.bridge b).trimPassed = false ∧ (t.bridge c).trimPassed = false) ∧
      t.alert = true ∧ t.faultLine = false ∧ t.port = { Port.reset with csHigh := s.port.csHigh } := by
  intro t ht
  have records := congrArg State.records ht
  rw [State.startAfresh, State.records_refreshLines] at records
  obtain ⟨pending, supplyValid, resetHigh, uptime, segs, links, nets, bridges, aux, ext, timing, devPending, devEnables,
    devRepeated⟩ := fields_of_resetNotices records
  obtain ⟨free, noLink, noNet, defaults, auxLevels, extLevels⟩ :=
    State.cleared_of_fields (s := s) (raw := raw) segs links nets timing aux ext
  have powered (b : BridgeId) : t.bridge b = (s.bridge b).powerUp := State.bridge_ofFn bridges b
  obtain ⟨pendingKinds, repeats⟩ := devNotices_of_failedTrims bridges devPending devRepeated
  have port : t.port = { Port.reset with csHigh := s.port.csHigh } := by
    rw [ht, State.startAfresh, State.refreshLines_port, (leaves_resetNotices _).port]; rfl
  have running : t.running = true := by
    rw [State.running, supplyValid, resetHigh]; exact up
  obtain ⟨fault, -, alerts⟩ : t.LinesFollow := by rw [ht]; exact State.linesFollow_refreshLines _
  exact ⟨pending, t.running_iff.mp running, uptime, free, noLink, noNet, defaults, auxLevels, extLevels, powered,
    devEnables, pendingKinds, repeats,
    (alerts (t.running_iff.mp running) (by rw [port]; rfl)).mpr (alertHeld_of_reset devPending devEnables),
    Bool.not_eq_true _ ▸ mt (fun asserted => (fault.mp asserted).2) (not_faultHeld_of_free free), port⟩

/-- Settles O20: the starts by the definition of the stop, the ends by `State.startAfresh_fresh`. -/
theorem resetRowsStopAndStartThePart : Obligations.ResetRowsStopAndStartThePart := by
  unfold Obligations.ResetRowsStopAndStartThePart
  intro s raw
  refine ⟨?_, fun c ends => ?_, fun low => ?_, fun high => ?_, fun low invalid => ?_⟩
  · rintro c (rfl | rfl)
    · rfl
    · simp [exec, execPowerOnResetStart, State.stop]
  · obtain ⟨u, next, queue, bridges, csHigh, up⟩ : ∃ u : State, exec c s = .next (u.startAfresh raw) ∧
        u.pending = s.pending ∧ u.bridges = s.bridges ∧ u.port.csHigh = s.port.csHigh ∧ u.running = true := by
      rcases ends with ⟨rfl, high⟩ | ⟨rfl, low, valid⟩
      · exact ⟨{ s with supplyValid := true }, by simp [exec, execPowerOnReset, high], rfl, rfl, rfl, high⟩
      · exact ⟨{ s with resetHigh := true }, by simp [exec, execResetNRise, low, valid], rfl, rfl, rfl,
          by simp [State.running, valid]⟩
    obtain ⟨pending, running, uptime, free, noLink, noNet, defaults, aux, ext, powered, devEnables, devPending,
      devRepeated, alert, faultLine, port⟩ := u.startAfresh_fresh raw up _ rfl
    have same (b : BridgeId) : u.bridge b = s.bridge b := by rw [State.bridge, bridges]; rfl
    refine ⟨_, next, pending.trans queue, running, uptime, free, noLink, noNet, defaults, aux, ext, fun b => ?_,
      devEnables, devPending, devRepeated, alert, faultLine, csHigh ▸ port⟩
    rw [powered b, same b]
    refine ⟨rfl, Trim.valid_iff _, fun passed => ?_, fun failed => ?_⟩
    · exact Bridge.powerUp_passed passed
    · exact Bridge.powerUp_failed failed
  · simp [exec, execPowerOnReset, low]
  · simp [exec, execResetNRise, high]
  · simp [exec, execResetNRise, low, invalid]

end Sys2Proof.Machine

/-! # The guards of the events, and the commands of the bridges (R12, R20, R34, R62, R66 to R77, R83, R86, R169) -/

namespace Sys2Proof.Machine

/-! ## The guards -/

theorem Filter.due_change (f : Filter) : f.change = { level := !f.level, run := 0, due := false } := rfl

/-- The watch counts by side: the own side is that of the phase, the opposite one the other. -/
theorem Bridge.ownWatch_eq (b : Bridge) : b.ownWatch = b.count b.phase := by
  unfold Bridge.ownWatch Bridge.count
  cases b.phase <;> rfl

theorem Bridge.phaseSense_eq (b : Bridge) : b.phaseSense = b.sense? b.phase := by
  unfold Bridge.phaseSense Bridge.sense?
  cases b.phase <;> rfl

theorem Bridge.oppositeWatch_iff (b : Bridge) (k : Nat) :
    k ≤ b.oppositeWatch ↔ ∃ side, side ≠ b.phase ∧ k ≤ b.count side := by
  unfold Bridge.oppositeWatch
  cases b.phase with
  | p => exact ⟨fun h => ⟨.n, by decide, h⟩, fun ⟨side, other, h⟩ => by cases side; exacts [absurd rfl other, h]⟩
  | n => exact ⟨fun h => ⟨.p, by decide, h⟩, fun ⟨side, other, h⟩ => by cases side; exacts [h, absurd rfl other]⟩

theorem Bridge.anyWatchFull_iff (b : Bridge) : b.anyWatchFull = true ↔ ∃ side, 20 ≤ b.count side := by
  simp only [Bridge.anyWatchFull, Bool.or_eq_true, decide_eq_true_eq]
  exact ⟨fun h => h.elim (fun p => ⟨.p, p⟩) fun n => ⟨.n, n⟩, fun ⟨side, h⟩ => by cases side; exacts [.inl h, .inr h]⟩

section Guards

variable (b : Bridge)

theorem Bridge.closeConfirmed_iff : b.closeConfirmed = true ↔
    b.state = .closing ∧ b.sampled = true ∧ b.sense? b.phase = true ∧ b.timeout < 20 := by
  simp only [Bridge.closeConfirmed, Bool.and_eq_true, beq_iff_eq, decide_eq_true_eq, b.phaseSense_eq, and_assoc]
  rfl

theorem Bridge.closeTimedOut_iff : b.closeTimedOut = true ↔ b.state = .closing ∧ 20 ≤ b.timeout := by
  simp only [Bridge.closeTimedOut, Bool.and_eq_true, beq_iff_eq, decide_eq_true_eq]
  rfl

theorem Bridge.openConfirmed_iff : b.openConfirmed = true ↔
    b.state = .opening ∧ b.sampled = true ∧ b.snsP = false ∧ b.snsN = false ∧ b.timeout < 20 := by
  simp only [Bridge.openConfirmed, Bool.and_eq_true, beq_iff_eq, decide_eq_true_eq, Bool.not_eq_true', and_assoc]
  rfl

theorem Bridge.openTimedOut_iff : b.openTimedOut = true ↔ b.state = .opening ∧ 20 ≤ b.timeout := by
  simp only [Bridge.openTimedOut, Bool.and_eq_true, beq_iff_eq, decide_eq_true_eq]
  rfl

theorem Bridge.droppedOut_iff : b.droppedOut = true ↔
    (b.state = .dwell ∨ b.state = .settling) ∧ 20 ≤ b.count b.phase := by
  simp only [Bridge.droppedOut, Bool.and_eq_true, Bool.or_eq_true, beq_iff_eq, decide_eq_true_eq, b.ownWatch_eq]
  rfl

theorem Bridge.oppositeStuck_iff : b.oppositeStuck = true ↔
    (b.state = .closing ∨ b.state = .dwell ∨ b.state = .settling) ∧ ∃ side, side ≠ b.phase ∧ 20 ≤ b.count side := by
  rw [← b.oppositeWatch_iff]
  simp only [Bridge.oppositeStuck, Bool.and_eq_true, Bool.or_eq_true, beq_iff_eq, decide_eq_true_eq, or_assoc]
  rfl

theorem Bridge.parkedStuck_iff : b.parkedStuck = true ↔ b.state = .parked ∧ ∃ side, 20 ≤ b.count side := by
  simp only [Bridge.parkedStuck, Bool.and_eq_true, beq_iff_eq, b.anyWatchFull_iff]

theorem Bridge.escalates_iff : b.escalates = true ↔
    b.state = .faulted ∧ (b.cause = some .closeTimeout ∨ b.cause = some .openTimeout) ∧ ∃ side, 20 ≤ b.count side := by
  simp only [Bridge.escalates, Bool.and_eq_true, Bool.or_eq_true, beq_iff_eq, b.anyWatchFull_iff, and_assoc]

end Guards

section TimerGuards

variable {s : State}

theorem Link.windowOver_iff (l : Link) (now : Uptime) (window : Nat) : l.windowOver now window = true ↔
    l.mode = .checked ∧ l.disagreeFlag = false ∧ ∃ t, l.disagreeStart = some t ∧ window ≤ (now - t).toNat := by
  simp only [Link.windowOver, Bool.and_eq_true, beq_iff_eq, Bool.not_eq_true', Option.any_eq_true, decide_eq_true_eq,
    and_assoc]
  rfl

theorem Segment.expiryReached_iff (g : Segment) (now : Uptime) : g.expiryReached now = true ↔
    ∃ e, g.expiry = some e ∧ (e - g.attrTime).toNat ≤ (now - g.attrTime).toNat := by
  unfold Segment.expiryReached
  cases g.expiry with
  | none => simp
  | some e => simp only [decide_eq_true_eq, Option.some.injEq, exists_eq_left']; rfl

theorem Net.inProgress_iff (n : Net) : n.inProgress = true ↔ n.state = .phaseP ∨ n.state = .phaseN := by
  simp [Net.inProgress]

theorem Net.timedPhase_eq_some_iff (n : Net) (b : BridgeId) (c : Confirmation) :
    n.timedPhase = some (b, c) ↔
      (n.state = .phaseP ∨ n.state = .phaseN) ∧ n.grant = some b ∧ n.confirmation = some c := by
  rw [← n.inProgress_iff]
  unfold Net.timedPhase
  split
  · next progress =>
    split
    · next b' c' grant confirmation => simp [progress, grant, confirmation]
    · next none =>
      refine ⟨fun h => (by cases h), fun ⟨_, grant, confirmation⟩ => absurd confirmation (none b c grant)⟩
  · next idle => simp [idle]

/-- The bridge whose dwell timer runs out (R83). -/
theorem State.dwellDue_eq_some_iff (a : SegId) (b : BridgeId) : s.dwellDue a = some b ↔
    ∃ n c, s.netAt a = some n ∧ (n.state = .phaseP ∨ n.state = .phaseN) ∧ n.grant = some b ∧
      n.confirmation = some c ∧ c.minDwell ≤ (s.uptime - c.time).toNat ∧ (s.bridge b).state = .dwell := by
  rw [State.dwellDue, Option.bind_eq_some_iff]
  constructor
  · rintro ⟨n, net, due⟩
    split at due
    · next b' c timed =>
      split at due
      · next passed =>
        cases due
        obtain ⟨state, grant, confirmation⟩ := (n.timedPhase_eq_some_iff _ _).mp timed
        exact ⟨n, c, net, state, grant, confirmation, of_decide_eq_true passed.1, passed.2⟩
      · cases due
    · cases due
  · rintro ⟨n, c, net, state, grant, confirmation, passed, dwell⟩
    refine ⟨n, net, ?_⟩
    rw [(n.timedPhase_eq_some_iff b c).mpr ⟨state, grant, confirmation⟩]
    exact if_pos ⟨decide_eq_true passed, dwell⟩

/-- The net whose max-dwell timer runs out (R86). -/
theorem State.maxDwellDue_eq_some_iff (a : SegId) (n : Net) : s.maxDwellDue a = some n ↔
    s.netAt a = some n ∧ ∃ b c, (n.state = .phaseP ∨ n.state = .phaseN) ∧ n.grant = some b ∧
      n.confirmation = some c ∧ c.maxDwell ≤ (s.uptime - c.time).toNat := by
  rw [State.maxDwellDue, Option.bind_eq_some_iff]
  constructor
  · rintro ⟨m, net, due⟩
    split at due
    · next b c timed =>
      split at due
      · next passed =>
        cases due
        obtain ⟨state, grant, confirmation⟩ := (n.timedPhase_eq_some_iff _ _).mp timed
        exact ⟨net, b, c, state, grant, confirmation, of_decide_eq_true passed⟩
      · cases due
    · cases due
  · rintro ⟨net, b, c, state, grant, confirmation, passed⟩
    refine ⟨n, net, ?_⟩
    rw [(n.timedPhase_eq_some_iff b c).mpr ⟨state, grant, confirmation⟩]
    exact if_pos (decide_eq_true passed)

theorem Net.quietDue_iff (n : Net) (now : Uptime) : n.quietDue now = true ↔
    n.state = .quiet ∧ ∃ q, n.quiet = some q ∧ q.length ≤ (now - q.start).toNat := by
  simp only [Net.quietDue, Bool.and_eq_true, beq_iff_eq, Option.any_eq_true, decide_eq_true_eq]
  rfl

theorem Net.spacingDue_iff (n : Net) (now : Uptime) : n.spacingDue now = true ↔
    n.state = .rest ∧ ∃ q, n.spacing = some q ∧ q.length ≤ (now - q.start).toNat := by
  simp only [Net.spacingDue, Bool.and_eq_true, beq_iff_eq, Option.any_eq_true, decide_eq_true_eq]
  rfl

end TimerGuards

/-- Settles O21: each guard is the reading of its condition above; in a reset no event is taken at all. -/
theorem eventsWaitForTheirMoment : Obligations.EventsWaitForTheirMoment := by
  unfold Obligations.EventsWaitForTheirMoment
  intro s
  have stays {c : Instr} {due : Bool} {effect : State → State} (event : Occurs s c due effect) (early : ¬ due = true) :
      exec c s = .next s := event.stays (Bool.not_eq_true _ ▸ early)
  refine ⟨fun c notFrame notFall notPin notStart notEnd held => ?_, fun i early => (Occurs.filteredChangeAux i).stays early,
    fun i early => (Occurs.filteredChangeExt i).stays early, fun i early => stays (.agreementWindowExpiry i) ?_,
    fun x early => stays (.expiry x) ?_, fun b p n trim => stays (.sampleEvent b p n) (by simp [trim]),
    fun a early => stays (.dwellTimerExpiry a) ?_, fun a early => stays (.maxDwellTimerExpiry a) ?_,
    fun a early => stays (.quietTimerExpiry a) ?_, fun a early => stays (.spacingExpiry a) ?_,
    fun b early => stays (.closeConfirmation b) ?_, fun b early => stays (.closeTimeout b) ?_,
    fun b early => stays (.openConfirmation b) ?_, fun b early => stays (.openTimeout b) ?_,
    fun b early => stays (.senseDropout b) ?_, fun b early => stays (.stuckOppositeSense b) ?_,
    fun b early => stays (.stuckInParked b) ?_, fun b early => stays (.stuckEscalation b) ?_⟩
  · have held : s.running = false := Bool.not_eq_true _ ▸ mt s.running_iff.mp held
    rcases instr_meaning c s with ⟨code, n, f, body, command⟩ | ⟨due, effect, event⟩ | own
    · rw [command.frameOf] at notFrame; cases notFrame
    · rw [event.exec, State.event_not_due s effect due (.inl held)]
    · cases own with
      | chipSelectFall => exact absurd rfl notFall
      | unknownCommand code f => cases code <;> cases notFrame
      | uptimeAdvance raw => simp [exec, execUptimeAdvance, held]
      | powerOnReset raw => exact absurd rfl (notEnd raw).1
      | pinReset => exact absurd rfl notPin
      | resetNRise raw => exact absurd rfl (notEnd raw).2
      | powerOnResetStart => exact absurd rfl notStart
  · simp only [Option.any_eq_true, Link.windowOver_iff, not_exists, not_and]
    exact fun l held mode flag t start => Nat.not_le.mpr (early l t held mode flag start)
  · simp only [Option.any_eq_true, Segment.expiryReached_iff, not_exists, not_and]
    exact fun g held e expiry => Nat.not_le.mpr (early g e held expiry)
  · simp only [Option.isSome_iff_exists, State.dwellDue_eq_some_iff, not_exists, not_and]
    exact fun b n c net state grant confirmation passed dwell =>
      (early n b c net state grant confirmation).elim (fun h => Nat.not_le.mpr h passed) fun h => h dwell
  · simp only [Option.isSome_iff_exists, State.maxDwellDue_eq_some_iff, not_exists, not_and]
    exact fun n net b c state _ confirmation => Nat.not_le.mpr (early n c net state confirmation)
  · simp only [Option.any_eq_true, Net.quietDue_iff, not_exists, not_and]
    exact fun n net state q quiet => Nat.not_le.mpr (early n q net state quiet)
  · simp only [Option.any_eq_true, Net.spacingDue_iff, not_exists, not_and]
    exact fun n net state q spacing => Nat.not_le.mpr (early n q net state spacing)
  · rw [Bridge.closeConfirmed_iff]
    rintro ⟨state, sampled, sense, timeout⟩
    simp [state, sampled, sense] at early
    omega
  · rw [Bridge.closeTimedOut_iff]
    rintro ⟨state, timeout⟩
    simp [state] at early
    omega
  · rw [Bridge.openConfirmed_iff]
    rintro ⟨state, sampled, senseP, senseN, timeout⟩
    simp [state, sampled, senseP, senseN] at early
    omega
  · rw [Bridge.openTimedOut_iff]
    rintro ⟨state, timeout⟩
    simp [state] at early
    omega
  · rw [Bridge.droppedOut_iff]
    rintro ⟨state, count⟩
    rcases early with ⟨notDwell, notSettling⟩ | below
    · exact state.elim notDwell notSettling
    · omega
  · rw [Bridge.oppositeStuck_iff]
    rintro ⟨state, side, other, count⟩
    rcases early with ⟨notClosing, notDwell, notSettling⟩ | below
    · exact state.elim notClosing fun h => h.elim notDwell notSettling
    · exact absurd count (Nat.not_le.mpr (below side other))
  · rw [Bridge.parkedStuck_iff]
    rintro ⟨state, side, count⟩
    exact early.elim (fun h => h state) fun below => absurd count (Nat.not_le.mpr (below side))
  · rw [Bridge.escalates_iff]
    rintro ⟨state, cause, side, count⟩
    rcases early with notFaulted | ⟨notClose, notOpen⟩ | below
    · exact notFaulted state
    · exact cause.elim notClose notOpen
    · exact absurd count (Nat.not_le.mpr (below side))

/-! ## The entries of a bridge -/

/-- Settles O38: each entry by its definition. -/
theorem bridgeCommandTable : Obligations.BridgeCommandTable := by
  unfold Obligations.BridgeCommandTable
  intro b now
  refine ⟨fun parked => ?_, fun notParked => if_neg notParked, fun state phase => ?_, fun notDwell notSettling => ?_,
    fun phase => ?_, fun state => ?_, fun opening => ?_, fun state => ?_⟩
  · rw [Bridge.closeP, if_pos parked]
    simp only [Bridge.enterClosing, Bridge.enter, Bridge.mk.injEq, true_and]
    refine ⟨rfl, rfl, ?_⟩
    by_cases full : 20 ≤ b.watchP <;> simp [full, Config.watchLength]
  · rw [Bridge.cross, if_pos ⟨state, phase⟩]
    rfl
  · exact if_neg fun h => h.1.elim notDwell notSettling
  · exact if_neg fun h => by rw [phase] at h; cases h.2
  · rcases state with state | state | state <;> simp only [Bridge.openSwitches, state] <;> rfl
  · simp only [Bridge.openSwitches, opening]
  · rcases state with state | state <;> simp only [Bridge.openSwitches, state]

theorem State.modBridge_congr {s : State} {b : BridgeId} {f g : Bridge → Bridge}
    (same : f (s.bridge b) = g (s.bridge b)) : s.modBridge b f = s.modBridge b g :=
  congrArg (fun r => { s with bridges := s.bridges.set b r }) same

/-! ## ATTACH, DETACH and RESET BRIDGE -/

theorem State.modSeg_of_held {s : State} {x : SegId} {g : Segment} (held : s.seg x = some g) (f : Segment → Segment) :
    s.modSeg x f = s.setSeg x (some (f g)) := by
  have : s.segs[x] = some g := held
  simp only [State.modSeg, State.setSeg, this, Option.map_some]

/-- Settles O35. -/
theorem Statements.attachBridge : Obligations.AttachBridge := by
  unfold Obligations.AttachBridge
  intro f s ready long
  have command := Commands.attachBridge f
  have second : byteAt (storedBytes 0x38#8 f) 2 = BitVec.ofNat 8 (f.byte 2) :=
    byteAt_storedBytes _ f (by decide) (by decide)
  refine ⟨fun bad => ?_, fun b target => ⟨fun undefined => ?_, fun x g end_ held => ⟨fun taken => ?_, fun freeB freeX => ?_⟩⟩⟩
  · exact command.completes_plain ready (by omega) (by simp only [Machine.attachBridge, bridgeTarget_bad bad])
  · refine command.completes_plain ready (by omega) ?_
    simp only [Machine.attachBridge, bridgeTarget target, second]
    split
    · rfl
    · next x named =>
      have free : s.seg x = none := undefined x (by
        unfold segOfByte at named
        split at named
        · cases named; simp [Nat.mod_eq_of_lt (clockedByte_lt f 2)]
        · cases named)
      rw [free]
  · refine command.completes_plain ready (by omega) ?_
    simp only [Machine.attachBridge, bridgeTarget target, second, segOfByte_val end_, held]
    rw [if_pos (taken.imp Option.isSome_iff_ne_none.mpr Option.isSome_iff_ne_none.mpr)]
  · refine command.completes_plain ready (by omega) ?_
    simp only [Machine.attachBridge, bridgeTarget target, second, segOfByte_val end_, held, freeB, freeX]
    rw [if_neg (by simp), State.attach, State.modSeg_of_held (g := g) (by exact held)]

/-- Settles O36. -/
theorem Statements.detachBridge : Obligations.DetachBridge := by
  unfold Obligations.DetachBridge
  intro f s ready long
  have command := Commands.detachBridge f
  refine ⟨fun bad => ?_, fun b target => ⟨fun free => ?_, fun x g attached held => ?_⟩⟩
  · exact command.completes_plain ready (by omega) (by simp only [Machine.detachBridge, bridgeTarget_bad bad])
  · exact command.completes_plain ready (by omega) (by simp only [Machine.detachBridge, bridgeTarget target, free])
  · refine command.completes_plain ready (by omega) ?_
    simp only [Machine.detachBridge, bridgeTarget target, attached]
    rw [State.modSeg_of_held (g := g) (by exact held)]

/-- Settles O37. -/
theorem Statements.resetBridge : Obligations.ResetBridge := by
  unfold Obligations.ResetBridge
  intro f s ready long
  have command := Commands.resetBridge f
  refine ⟨fun bad => ?_, fun b target => ⟨fun inService => ?_, fun faulted trim => ?_, fun faulted cause => ?_⟩⟩
  · exact command.completes_plain ready (by omega) (by simp only [Machine.resetBridge, bridgeTarget_bad bad])
  · refine command.completes_plain ready (by omega) ?_
    simp only [Machine.resetBridge, bridgeTarget target, inService, ne_eq, not_false_eq_true, if_true]
  · refine command.completes_plain ready (by omega) ?_
    simp only [Machine.resetBridge, bridgeTarget target, faulted, trim, ne_eq, not_true_eq_false, if_false, if_true]
  · refine command.completes_plain ready (by omega) ?_
    simp only [Machine.resetBridge, bridgeTarget target, faulted, cause, ne_eq, not_true_eq_false, if_false]
    rfl

/-! ## Confirmations and faults of the switches -/

/-- The six switch faults by their event: the due condition is that of the rule. -/
theorem Occurs.happens_faultBridge {s : State} {c : Instr} {due : Bool} {b : BridgeId} {cause : FaultCause}
    (h : Occurs s c due (·.faultBridge b cause)) (up : s.Running) (isDue : due = true) :
    s.Happens c
      { s.modBridge b (fun r => { r with
          state := .faulted, cause := some cause, crossing := false, timeout := 0, watchP := 0, watchN := 0,
          entryTime := s.uptime, drvP := false, drvN := false, sampled := false }) with
        devPending := s.devPending ||| 0b1000#4,
        devRepeated := s.devRepeated || s.devPending &&& 0b1000#4 != 0#4 }.recompute :=
  h.happens up isDue rfl

/-- Settles O42. -/
theorem switchFaults : Obligations.SwitchFaults := by
  unfold Obligations.SwitchFaults
  intro b s c cause up condition
  rcases condition with ⟨rfl, rfl, state, count⟩ | ⟨rfl, rfl, state, count⟩ | ⟨rfl, rfl, state, count⟩ |
    ⟨rfl, rfl, state, count⟩ | ⟨rfl, rfl, state, count⟩ | ⟨rfl, rfl, state, held, count⟩
  · exact (Occurs.closeTimeout b).happens_faultBridge up ((Bridge.closeTimedOut_iff _).mpr ⟨state, count⟩)
  · exact (Occurs.openTimeout b).happens_faultBridge up ((Bridge.openTimedOut_iff _).mpr ⟨state, count⟩)
  · exact (Occurs.senseDropout b).happens_faultBridge up ((Bridge.droppedOut_iff _).mpr ⟨state, count⟩)
  · exact (Occurs.stuckOppositeSense b).happens_faultBridge up ((Bridge.oppositeStuck_iff _).mpr ⟨state, count⟩)
  · exact (Occurs.stuckInParked b).happens_faultBridge up ((Bridge.parkedStuck_iff _).mpr ⟨state, count⟩)
  · exact (Occurs.stuckEscalation b).happens_faultBridge up ((Bridge.escalates_iff _).mpr ⟨state, held, count⟩)

/-- Settles O40: the report reaches the net of the bridge, and captures where that net granted it. -/
theorem closeConfirmation : Obligations.CloseConfirmation := by
  unfold Obligations.CloseConfirmation
  intro b s v up state sampled timeout sense hv
  have isDue : (s.bridge b).closeConfirmed = true :=
    (Bridge.closeConfirmed_iff _).mpr ⟨state, sampled, sense, timeout⟩
  have entered : s.modBridge b (·.enter .dwell s.uptime) = v := hv.symm
  have sameNet : v.netOfBridge b = s.netOfBridge b := by
    rw [State.netOfBridge, hv, State.bridge_modBridge, if_pos rfl]; rfl
  refine ⟨fun n net progress grant => ?_, fun other => ?_⟩
  · refine (Occurs.closeConfirmation b).happens up isDue ?_
    simp only [entered, State.reportConfirmation, sameNet, net, progress, grant, and_self, if_true]
    rw [hv]
    rfl
  · refine (Occurs.closeConfirmation b).happens up isDue ?_
    simp only [entered, State.reportConfirmation, sameNet]
    split
    · rfl
    · next n net =>
      rw [if_neg]
      rintro ⟨progress, grant⟩
      exact (other n net).elim (fun h => by rw [progress] at h; cases h) fun h => h grant

/-- Settles O44. -/
theorem dwellTimerExpiry : Obligations.DwellTimerExpiry := by
  unfold Obligations.DwellTimerExpiry
  intro a n b c s up net state grant confirmation passed dwell
  have due : s.dwellDue a = some b :=
    (State.dwellDue_eq_some_iff a b).mpr ⟨n, c, net, state, grant, confirmation, passed, dwell⟩
  refine (Occurs.dwellTimerExpiry a).happens up (by rw [due]; rfl) ?_
  simp only [State.takeDwell, due]
  exact State.modBridge_congr (if_pos dwell)

end Sys2Proof.Machine

/-! # The segment table, the alarms and the resistance (R1 to R18, R94, R109, R127 to R135) -/

namespace Sys2Proof.Machine

/-! ## The resistance conversion -/

theorem resistance_of_le {g : Nat} (h : g ≤ 10000) : resistance g = 100000 := if_pos h

theorem resistance_of_gt {g : Nat} (h : 10000 < g) : resistance g = divRound (10 ^ 9) g := if_neg (Nat.not_le.mpr h)

/-- The resistance of a storable conductance above 10,000 pS lies in the range of R109. -/
theorem resistance_range {g : Nat} (low : 10000 < g) (high : g ≤ 100000000) :
    10 ≤ resistance g ∧ resistance g ≤ 99990 := by
  have smallest : divRound (10 ^ 9) 100000000 = 10 := by decide
  have largest : divRound (10 ^ 9) 10001 = 99990 := by decide
  rw [resistance_of_gt low]
  exact ⟨smallest ▸ divRound_antitone _ (by omega) high, largest ▸ divRound_antitone _ (by decide) low⟩

theorem resistance_antitone {g h : Nat} (le : g ≤ h) : resistance h ≤ resistance g := by
  rcases Nat.lt_or_ge 10000 g with low | small
  · rw [resistance_of_gt low, resistance_of_gt (low.trans_le le)]
    exact divRound_antitone _ (by omega) le
  · rw [resistance_of_le small]
    exact resistance_le h

/-- Settles O49. -/
theorem resistanceConversion : Obligations.ResistanceConversion := by
  unfold Obligations.ResistanceConversion
  exact ⟨fun _ => resistance_of_le, fun _ => resistance_of_gt, fun _ => resistance_range, fun _ _ => resistance_antitone⟩

/-! ## The alarm -/

/-- Two kinds raised one after the other are raised together (R143). -/
theorem raise_twice (p : BitVec 8) (r : Bool) {k l : BitVec 8} (apart : k &&& l = 0#8) :
    (p ||| k ||| l = p ||| (k ||| l)) ∧
    ((r || p &&& k != 0#8 || (p ||| k) &&& l != 0#8) = (r || p &&& (k ||| l) != 0#8)) := by
  refine ⟨BitVec.or_assoc .., ?_⟩
  rw [BitVec.and_comm (p ||| k), BitVec.and_or_distrib_left, BitVec.and_comm l k, apart, BitVec.or_zero,
    BitVec.and_comm l p, BitVec.and_or_distrib_left, Bool.or_assoc, Bool.eq_iff_iff]
  simp only [Bool.or_eq_true, bne_iff_ne, ne_eq, BitVec.or_eq_zero_iff, not_and_or]

/-- A change of alarm raises the notices of R132 with the repeat flag of R143. -/
theorem Segment.setAlarm_eq_movedTo (g : Segment) (a : Alarm) : g.setAlarm a = g.movedTo a := by
  obtain ⟨_, _, _, _, _, _, _, _, _, _, _, _, _, _, _, _, held, _, _, _, _, _, p, r⟩ := g
  cases held <;> cases a <;>
    simp [Segment.setAlarm, transitionNotices, Segment.movedTo, movedBits, Segment.raise, Segment.hasPending,
      SegNotice.bit]
  · exact raise_twice p r rfl
  · exact raise_twice p r rfl

theorem alarmTable_fault_iff (t : Thresholds) (held : Alarm) (w : Nat) : alarmTable t held w = .fault ↔
    (held ≠ .fault ∧ t.faultOn ≤ w) ∨ (held = .fault ∧ t.faultOff ≤ w) := by
  cases held <;> simp only [alarmTable] <;> grind

theorem alarmTable_warn_iff (t : Thresholds) (held : Alarm) (w : Nat) : alarmTable t held w = .warn ↔
    (held = .clear ∧ w < t.faultOn ∧ t.warnOn ≤ w) ∨ (held = .warn ∧ w < t.faultOn ∧ t.warnOff ≤ w) ∨
    (held = .fault ∧ w < t.faultOff ∧ t.warnOff ≤ w) := by
  cases held <;> simp only [alarmTable] <;> grind

theorem Segment.tableAlarm_eq (g : Segment) : g.tableAlarm =
    if warnComparator g.enables = false ∧ alarmTable g.thresholds g.alarm g.worse = .warn then .clear
    else alarmTable g.thresholds g.alarm g.worse := by
  simp [Segment.tableAlarm]

theorem Segment.tableAlarm_fault_iff (g : Segment) : g.tableAlarm = .fault ↔
    (g.alarm ≠ .fault ∧ g.thresholds.faultOn ≤ max g.gp g.gn) ∨
    (g.alarm = .fault ∧ g.thresholds.faultOff ≤ max g.gp g.gn) := by
  rw [g.tableAlarm_eq, ← Segment.worse, ← alarmTable_fault_iff]
  split
  · next warn => simp [warn.2]
  · rfl

theorem Segment.tableAlarm_warn_iff (g : Segment) : g.tableAlarm = .warn ↔ warnComparator g.enables = true ∧
    ((g.alarm = .clear ∧ max g.gp g.gn < g.thresholds.faultOn ∧ g.thresholds.warnOn ≤ max g.gp g.gn) ∨
     (g.alarm = .warn ∧ max g.gp g.gn < g.thresholds.faultOn ∧ g.thresholds.warnOff ≤ max g.gp g.gn) ∨
     (g.alarm = .fault ∧ max g.gp g.gn < g.thresholds.faultOff ∧ g.thresholds.warnOff ≤ max g.gp g.gn)) := by
  rw [g.tableAlarm_eq, ← Segment.worse, ← alarmTable_warn_iff]
  split
  · next off => simp [off.1]
  · next on =>
    rw [not_and] at on
    exact ⟨fun warn => ⟨by_contra fun off => on (Bool.eq_false_iff.mpr off) warn, warn⟩, And.right⟩

theorem Alarm.eq_of_iff {a b : Alarm} (fault : a = .fault ↔ b = .fault) (warn : a = .warn ↔ b = .warn) : a = b := by
  cases a <;> cases b <;> simp_all

theorem Segment.latched_iff (g : Segment) : g.latched = true ↔ g.latch = true ∧ g.alarm = .fault := by
  simp [Segment.latched]

theorem Segment.evaluable_iff (g : Segment) : g.evaluable = true ↔ g.quality ≠ .none ∧ g.ext = false := by
  simp [Segment.evaluable]

/-- Settles O51: the alarm named is that of the table in force. -/
theorem alarmEvaluation : Obligations.AlarmEvaluation := by
  unfold Obligations.AlarmEvaluation
  intro g on a comparator fault warn
  have table : a = g.tableAlarm := by
    refine Alarm.eq_of_iff (fault.trans g.tableAlarm_fault_iff.symm) (warn.trans ?_)
    rw [g.tableAlarm_warn_iff, comparator, warnComparator_iff]
  refine ⟨fun kept => if_neg ?_, fun quality ext latched => ?_⟩
  · simp only [Bool.and_eq_true, Bool.not_eq_true', ← Bool.not_eq_true, g.evaluable_iff, g.latched_iff]
    rintro ⟨⟨quality, ext⟩, latched⟩
    rcases kept with h | h | h
    exacts [quality h, ext h, latched h]
  · have evaluates : g.evaluate = g.setAlarm a := by
      rw [table]
      refine if_pos ?_
      simp only [Bool.and_eq_true, Bool.not_eq_true', ← Bool.not_eq_true, g.evaluable_iff, g.latched_iff]
      exact ⟨⟨quality, Bool.eq_false_iff.mp ext⟩, latched⟩
    refine ⟨fun same => ?_, fun _ => evaluates.trans (g.setAlarm_eq_movedTo a)⟩
    rw [evaluates, same, g.setAlarm_same]

end Sys2Proof.Machine

/-! # The commands of the segment table, of the latch and of the spot checks (R1 to R18, R94, R134, R135) -/

namespace Sys2Proof.Machine

/-! ## The operands of DEFINE and AMEND SEGMENT -/

section Operands

variable (code : Byte) (f : Clocked)

theorem byteAt_toNat {i : Nat} (first : 1 ≤ i) (stored : i < 64) : (byteAt (storedBytes code f) i).toNat = f.byte i := by
  rw [byteAt_storedBytes code f first stored, BitVec.toNat_ofNat, Nat.mod_eq_of_lt (clockedByte_lt f i)]

theorem byteAt_getLsbD {i : Nat} (first : 1 ≤ i) (stored : i < 64) (k : Nat) :
    (byteAt (storedBytes code f) i).getLsbD k = (f.byte i).testBit k := by
  rw [← BitVec.testBit_toNat, byteAt_toNat code f first stored]

theorem clockedWord_lt (i : Nat) : f.word i < 65536 := by
  have high := clockedByte_lt f i
  have low := clockedByte_lt f (i + 1)
  unfold Clocked.word
  omega

variable {code} {f}

theorem sourceAt {src : Source} (h : src.code = f.byte 10) :
    sourceOfByte (byteAt (storedBytes code f) 10) = some src :=
  ((ofByte_iff_code _).1 src).mpr (by rw [h, byteAt_toNat code f (by decide) (by decide)])

theorem Source.code_le (src : Source) : src.code ≤ 4 := by cases src <;> decide

theorem sourceAt_bad (h : 4 < f.byte 10) : sourceOfByte (byteAt (storedBytes code f) 10) = none := by
  cases named : sourceOfByte (byteAt (storedBytes code f) 10) with
  | none => rfl
  | some src =>
    have least := ((ofByte_iff_code _).1 src).mp named
    rw [byteAt_toNat code f (by decide) (by decide)] at least
    have most := src.code_le
    omega

/-- The operands are clamped to these properties; a validity word has no upper bound to clamp to (R2). -/
theorem declaredAt_clamp {v ff wf val : Nat} (hv : v = max 100 (min 1500 (f.word 2)))
    (hff : ff = max 50 (min 2000 (f.word 4))) (hwf : wf = max ff (min 5000 (f.word 6)))
    (hval : val = max 1 (f.word 8)) :
    (declaredAt (storedBytes code f)).clamp = { vMax := v, faultFactor := ff, warnFactor := wf, validity := val } := by
  have fits : min 65535 (f.word 8) = f.word 8 := min_eq_right (by have := clockedWord_lt f 8; omega)
  simp only [declaredAt, wordAt_storedBytes code f (i := 2) (by decide) (by decide),
    wordAt_storedBytes code f (i := 4) (by decide) (by decide), wordAt_storedBytes code f (i := 6) (by decide) (by decide),
    wordAt_storedBytes code f (i := 8) (by decide) (by decide), Declared.clamp, clampTo, fits, hv, hff, hwf, hval]

theorem declaredAt_status {v ff wf val : Nat} :
    clampStatus (({ vMax := v, faultFactor := ff, warnFactor := wf, validity := val } : Declared) !=
        declaredAt (storedBytes code f)) =
      if v = f.word 2 ∧ ff = f.word 4 ∧ wf = f.word 6 ∧ val = f.word 8 then .ok else .clamped := by
  refine clampStatus_bne ?_
  simp only [declaredAt, wordAt_storedBytes code f (i := 2) (by decide) (by decide),
    wordAt_storedBytes code f (i := 4) (by decide) (by decide), wordAt_storedBytes code f (i := 6) (by decide) (by decide),
    wordAt_storedBytes code f (i := 8) (by decide) (by decide), Declared.mk.injEq]

end Operands

/-! ## DEFINE, AMEND and RETIRE SEGMENT -/

/-- Settles O22. -/
theorem Statements.defineSegment : Obligations.DefineSegment := by
  unfold Obligations.DefineSegment
  intro f s ready long
  have command := Commands.defineSegment f
  refine ⟨fun bad => ?_, fun x target => ⟨fun g held => ?_, fun free bad => ?_, fun src v ff wf val free source hv hff hwf hval => ?_⟩⟩
  · exact command.completes_plain ready (by omega) (by simp only [Machine.defineSegment, segTarget_bad bad])
  · exact command.completes_plain ready (by omega) (by simp only [Machine.defineSegment, segTarget target, held])
  · exact command.completes_plain ready (by omega)
      (by simp only [Machine.defineSegment, segTarget target, free, sourceAt_bad bad])
  · refine command.completes_plain ready (by omega) ?_
    simp only [Machine.defineSegment, segTarget target, free, sourceAt source, declaredAt_clamp hv hff hwf hval,
      declaredAt_status, byteAt_getLsbD 0x20#8 f (i := 11) (by decide) (by decide)]
    rfl

theorem State.modSeg_congr {s : State} {x : SegId} {f g : Segment → Segment}
    (same : ∀ h, s.seg x = some h → f h = g h) : s.modSeg x f = s.modSeg x g := by
  have mapped : (s.segs[x]).map f = (s.segs[x]).map g := by
    cases held : s.segs[x] with
    | none => rfl
    | some h => exact congrArg some (same h held)
  simp only [State.modSeg, mapped]

theorem resolves_validity {s t : State} (h : Resolves s t) {x : SegId} {g k : Segment} (before : s.seg x = some g)
    (after : t.seg x = some k) : k.validity = g.validity := by
  have kept : g.Kept k := by
    have := h.segs x
    rwa [before, after] at this
  rw [kept]

theorem Segment.amend_validity (g : Segment) (d : Declared) (src : Source) (latch drive : Bool) :
    (g.amend d src latch drive).validity = d.validity := by
  unfold Segment.amend
  dsimp only
  split
  · rfl
  · rw [Segment.evaluate_kept]

theorem Segment.reschedule_eq (g : Segment) (now : Uptime) :
    g.reschedule now =
      if g.quality = .none ∨ g.stale = true then g
      else if (now - g.attrTime).toNat < g.validity * 1000 then
        { g with expiry := some (g.attrTime + BitVec.ofNat 32 (g.validity * 1000)) }
      else { g with stale := true, expiry := none, pending := g.pending ||| 0x08#8,
                    repeated := g.repeated || g.pending &&& 0x08#8 != 0#8 } := rfl

/-- Settles O24: the recompute leaves the validity that the rescheduling reads (R10). -/
theorem Statements.amendSegment : Obligations.AmendSegment := by
  unfold Obligations.AmendSegment
  intro f s ready long
  have command := Commands.amendSegment f
  refine ⟨fun bad => ?_, fun x target => ⟨fun free => ?_, fun g held bad => ?_,
    fun g src v ff wf val w u held source hv hff hwf hval hw hu => ?_⟩⟩
  · exact command.completes_plain ready (by omega) (by simp only [Machine.amendSegment, segTarget_bad bad])
  · exact command.completes_plain ready (by omega) (by simp only [Machine.amendSegment, segTarget target, free])
  · exact command.completes_plain ready (by omega)
      (by simp only [Machine.amendSegment, segTarget target, held, sourceAt_bad bad])
  · refine command.completes_plain ready (by omega) ?_
    have amended : u = s.setSeg x (some (g.amend { vMax := v, faultFactor := ff, warnFactor := wf, validity := val } src
        ((f.byte 11).testBit 0) ((f.byte 11).testBit 1))) := by
      rw [hu, hw]
      unfold Segment.amend
      dsimp only
      split <;> rfl
    simp only [Machine.amendSegment, segTarget target, held, sourceAt source, declaredAt_clamp hv hff hwf hval,
      declaredAt_status, byteAt_getLsbD 0x21#8 f (i := 11) (by decide) (by decide), ← amended]
    refine congrArg (Prod.mk _) ?_
    split
    · rfl
    · refine State.modSeg_congr fun h here => ?_
      have record : u.seg x = some (g.amend { vMax := v, faultFactor := ff, warnFactor := wf, validity := val } src
          ((f.byte 11).testBit 0) ((f.byte 11).testBit 1)) := by
        rw [amended, State.seg_setSeg, if_pos rfl]
      have resolved : Resolves u (if src = g.source then u else u.recompute) := by
        split
        · exact .refl u
        · exact resolves_recompute u
      rw [Segment.reschedule_eq, resolves_validity resolved record here, Segment.amend_validity]

theorem State.linked_iff (s : State) (x : SegId) :
    s.linked x = true ↔ ∃ i l, s.link i = some l ∧ (l.endA = x ∨ l.endB = x) := by
  simp [State.linked, mem_allLinks, Option.any_eq_true]

/-- Settles O25. -/
theorem Statements.retireSegment : Obligations.RetireSegment := by
  unfold Obligations.RetireSegment
  intro f s ready long
  have command := Commands.retireSegment f
  refine ⟨fun bad => ?_, fun x target => ⟨fun free => ?_, fun g held ends => ?_, fun g held unlinked => ?_⟩⟩
  · exact command.completes_plain ready (by omega) (by simp only [Machine.retireSegment, segTarget_bad bad])
  · exact command.completes_plain ready (by omega) (by simp only [Machine.retireSegment, segTarget target, free])
  · refine command.completes_plain ready (by omega) ?_
    simp only [Machine.retireSegment, segTarget target, held, (s.linked_iff x).mpr ends, if_true]
  · have noEnd : ¬ s.linked x = true := by
      rw [State.linked_iff]
      rintro ⟨i, l, link, end_⟩
      exact end_.elim (unlinked i l link).1 (unlinked i l link).2
    refine command.completes_plain ready (by omega) ?_
    simp only [Machine.retireSegment, segTarget target, held, noEnd]
    cases g.bridge <;> rfl

/-! ## CLEAR LOW MARK, ACKNOWLEDGE FAULT and SPOT CHECK -/

/-- Settles O26. -/
theorem Statements.clearLowMark : Obligations.ClearLowMark := by
  unfold Obligations.ClearLowMark
  intro f s ready long
  have command := Commands.clearLowMark f
  refine ⟨fun bad => ?_, fun x target => ⟨fun free => ?_, fun g held => ?_⟩⟩
  · exact command.completes_plain ready (by omega) (by simp only [Machine.clearLowMark, segTarget_bad bad])
  · exact command.completes_plain ready (by omega) (by simp only [Machine.clearLowMark, segTarget target, free])
  · exact command.completes_plain ready (by omega)
      (by simp only [Machine.clearLowMark, segTarget target, held]; rfl)

theorem Segment.movedTo_of_fault {g : Segment} (fault : g.alarm = .fault) (a : Alarm) :
    g.movedTo a = { g with alarm := a, pending := g.pending ||| movedBits .fault a,
                           repeated := g.repeated || g.pending &&& movedBits .fault a != 0#8 } := by
  rw [Segment.movedTo, fault]

theorem State.faultCleared_ext {s : State} {x : SegId} {g : Segment} (ext : g.ext = true) :
    s.faultCleared x g = true ↔ ∃ n, s.netOf x = some n ∧ s.verdict n.members = .ok := by
  rw [State.faultCleared, ext, if_pos rfl, State.verdictOf]
  cases s.netOf x with
  | none => simp
  | some n => simp

theorem State.faultCleared_own {s : State} {x : SegId} {g : Segment} (ext : g.ext = false) :
    s.faultCleared x g = true ↔ g.quality ≠ .none ∧ max g.gp g.gn < g.thresholds.faultOff := by
  simp [State.faultCleared, ext, Segment.worse]

/-- Settles O27. -/
theorem Statements.acknowledgeFault : Obligations.AcknowledgeFault := by
  unfold Obligations.AcknowledgeFault
  intro f s ready long
  have command := Commands.acknowledgeFault f
  refine ⟨fun bad => ?_, fun x target => ⟨fun free => ?_, fun g held => ?_⟩⟩
  · exact command.completes_plain ready (by omega) (by simp only [Machine.acknowledgeFault, segTarget_bad bad])
  · exact command.completes_plain ready (by omega) (by simp only [Machine.acknowledgeFault, segTarget target, free])
  have refused (fault : g.alarm = .fault) (latch : g.latch = true) (still : ¬ s.faultCleared x g = true) :
      s.Completes (.acknowledgeFault f) (0x24#8 :: f.bytes) .stillFaulty [] s := by
    have latched : g.latched = true := g.latched_iff.mpr ⟨latch, fault⟩
    exact command.completes_plain ready (by omega)
      (by simp only [Machine.acknowledgeFault, segTarget target, held, latched, still]; rfl)
  have accepted (fault : g.alarm = .fault) (latch : g.latch = true) (cleared : s.faultCleared x g = true) :
      s.Completes (.acknowledgeFault f) (0x24#8 :: f.bytes) .ok [] (s.setSeg x (some g.acknowledged)) := by
    have latched : g.latched = true := g.latched_iff.mpr ⟨latch, fault⟩
    exact command.completes_plain ready (by omega)
      (by simp only [Machine.acknowledgeFault, segTarget target, held, latched, cleared]; rfl)
  refine ⟨fun unlatched => ?_, fun fault latch ext verdict => ?_, fun fault latch ext still => ?_,
    fun n fault latch ext net verdict => ?_, fun fault latch ext quality below => ?_⟩
  · have unlatched : g.latched = false := by
      rw [← Bool.not_eq_true, g.latched_iff]
      rintro ⟨latch, fault⟩
      exact unlatched.elim (· fault) fun off => by rw [off] at latch; cases latch
    exact command.completes_plain ready (by omega)
      (by simp only [Machine.acknowledgeFault, segTarget target, held, unlatched]; rfl)
  · refine refused fault latch ?_
    rw [State.faultCleared_ext ext]
    rintro ⟨n, net, ok⟩
    rw [verdict n net] at ok
    cases ok
  · refine refused fault latch ?_
    rw [State.faultCleared_own ext]
    rintro ⟨quality, below⟩
    exact still.elim quality (Nat.not_le.mpr below)
  · have ack : g.acknowledged = g.movedTo .clear := by rw [Segment.acknowledged, if_pos ext, g.setAlarm_eq_movedTo]
    have := accepted fault latch ((State.faultCleared_ext ext).mpr ⟨n, net, verdict⟩)
    rwa [ack, Segment.movedTo_of_fault fault] at this
  · have notFault : g.tableAlarm ≠ .fault := by
      rw [Ne, g.tableAlarm_fault_iff]
      rintro (⟨other, -⟩ | ⟨-, above⟩)
      · exact other fault
      · exact Nat.not_le.mpr below above
    have warn : g.tableAlarm = .warn ↔ g.thresholds.warnOff ≤ max g.gp g.gn ∧ g.enables &&& 0x30#8 ≠ 0#8 := by
      rw [g.tableAlarm_warn_iff, warnComparator_iff]
      simp only [fault, reduceCtorEq, false_and, true_and, false_or, below]
      exact and_comm
    have ack : g.acknowledged = g.movedTo g.tableAlarm := by
      rw [Segment.acknowledged, if_neg (by rw [ext]; decide), g.setAlarm_eq_movedTo]
    have completes := accepted fault latch ((State.faultCleared_own ext).mpr ⟨quality, below⟩)
    rw [ack, Segment.movedTo_of_fault fault] at completes
    split
    · next band => rwa [warn.mpr band] at completes
    · next noBand =>
      have clear : g.tableAlarm = .clear :=
        Alarm.eq_of_iff (iff_of_false notFault (by decide)) (iff_of_false (mt warn.mp noBand) (by decide))
      rwa [clear] at completes

theorem Segment.requestSpot_eq (g : Segment) (now : Uptime) :
    g.requestSpot now = { g with spot := some (g.spot.getD now) } := by
  unfold Segment.requestSpot
  cases g.spot <;> rfl

/-- Settles O28. -/
theorem Statements.spotCheck : Obligations.SpotCheck := by
  unfold Obligations.SpotCheck
  intro f s ready long
  have command := Commands.spotCheck f
  refine ⟨fun bad => ?_, fun x target => ⟨fun free => ?_, fun g n u held net hu => ?_⟩⟩
  · exact command.completes_plain ready (by omega) (by simp only [Machine.spotCheck, segTarget_bad bad])
  · exact command.completes_plain ready (by omega) (by simp only [Machine.spotCheck, segTarget target, free])
  rw [← g.requestSpot_eq] at hu
  refine ⟨fun state => ?_, fun state => ?_, fun state idle => ?_, fun state waiting => ?_, fun state => ?_⟩
  · exact command.completes_plain ready (by omega)
      (by simp only [Machine.spotCheck, segTarget target, held, net, state])
  · exact command.completes_plain ready (by omega)
      (by simp only [Machine.spotCheck, segTarget target, held, net, state])
  · exact command.completes_plain ready (by omega)
      (by simp only [Machine.spotCheck, segTarget target, held, net, state, idle, hu]; rfl)
  · exact command.completes_plain ready (by omega)
      (by simp only [Machine.spotCheck, segTarget target, held, net, state, waiting, hu]; rfl)
  · refine command.completes_plain ready (by omega) ?_
    simp only [Machine.spotCheck, segTarget target, held, net, hu]
    rcases state with state | state | state | state <;> rw [state]

/-! ## The timers of the tables -/

/-- Settles O29. -/
theorem tableTimersExpire : Obligations.TableTimersExpire := by
  unfold Obligations.TableTimersExpire
  refine fun s up => ⟨fun x g e held expiry reached => ?_, fun i l t held mode clear start passed => ?_⟩
  · refine (Occurs.expiry x).happens up ?_ (State.modSeg_of_held held _)
    rw [held, Option.any_some, g.expiryReached_iff]
    exact ⟨e, expiry, reached⟩
  · refine (Occurs.agreementWindowExpiry i).happens up ?_ (by rw [State.flagDisagreement, held]; rfl)
    rw [held, Option.any_some, l.windowOver_iff]
    exact ⟨mode, clear, t, start, passed⟩

end Sys2Proof.Machine

/-! # The link table, the filters and the 1 ms samples (R20, R22 to R37, R55, R66) -/

namespace Sys2Proof.Machine

/-! ## The operands of DEFINE LINK -/

theorem auxOfByte_val {t : Nat} {i : AuxLine} (h : i.val = t) : auxOfByte (BitVec.ofNat 8 t) = some i := by
  subst h; revert i; decide

theorem auxOfByte_above {t : Nat} (above : 11 < t) (byte : t < 256) : auxOfByte (BitVec.ofNat 8 t) = none := by
  rw [auxOfByte, dif_neg]; simp only [BitVec.toNat_ofNat]; omega

section Operands

variable {code : Byte} {f : Clocked}

theorem LinkMode.code_le (v : LinkMode) : v.code ≤ 2 := by cases v <;> decide
theorem Polarity.code_le (v : Polarity) : v.code ≤ 1 := by cases v <;> decide
theorem Contact.code_le (v : Contact) : v.code ≤ 1 := by cases v <;> decide

/-- A field that is read by codes names nothing above its largest code. -/
theorem named_none {α : Type} {named : Byte → Option α} {toCode : α → Nat} {most : Nat} {b : Byte}
    (iff_code : ∀ v, named b = some v ↔ toCode v = b.toNat) (le : ∀ v, toCode v ≤ most) (above : most < b.toNat) :
    named b = none := by
  cases held : named b with
  | none => rfl
  | some v =>
    have exact_ := (iff_code v).mp held
    have bound := le v
    omega

theorem modeAt {m : LinkMode} (h : m.code = f.byte 4) : modeOfByte (byteAt (storedBytes code f) 4) = some m :=
  ((ofByte_iff_code _).2.1 m).mpr (by rw [h, byteAt_toNat code f (by decide) (by decide)])

theorem modeAt_bad (h : 2 < f.byte 4) : modeOfByte (byteAt (storedBytes code f) 4) = none :=
  named_none (ofByte_iff_code _).2.1 LinkMode.code_le (by rwa [byteAt_toNat code f (by decide) (by decide)])

theorem contactAt {d : Contact} {i : Nat} (first : 1 ≤ i) (stored : i < 64) (h : d.code = f.byte i) :
    contactOfByte (byteAt (storedBytes code f) i) = some d :=
  ((ofByte_iff_code _).2.2.2 d).mpr (by rw [h, byteAt_toNat code f first stored])

theorem contactAt_bad {i : Nat} (first : 1 ≤ i) (stored : i < 64) (h : 1 < f.byte i) :
    contactOfByte (byteAt (storedBytes code f) i) = none :=
  named_none (ofByte_iff_code _).2.2.2 Contact.code_le (by rwa [byteAt_toNat code f first stored])

theorem exists_contact {k : Nat} (h : k ≤ 1) : ∃ d : Contact, d.code = k := by
  rcases Nat.le_one_iff_eq_zero_or_eq_one.mp h with rfl | rfl
  exacts [⟨.opened, rfl⟩, ⟨.closed, rfl⟩]

theorem sensorAt_of_sensing {m : LinkMode} {ln : AuxLine} {pol : Polarity} (sensing : m ≠ .declared)
    (line : ln.val = f.byte 5) (polarity : pol.code = f.byte 6) :
    sensorAt m (byteAt (storedBytes code f) 5) (byteAt (storedBytes code f) 6) = some (some (ln, pol)) := by
  have namedLine : auxOfByte (byteAt (storedBytes code f) 5) = some ln := by
    rw [byteAt_storedBytes code f (by decide) (by decide), auxOfByte_val line]
  have namedPolarity : polarityOfByte (byteAt (storedBytes code f) 6) = some pol :=
    ((ofByte_iff_code _).2.2.1 pol).mpr (by rw [polarity, byteAt_toNat code f (by decide) (by decide)])
  cases m with
  | declared => exact absurd rfl sensing
  | sensed | checked => simp only [sensorAt, namedLine, namedPolarity]

theorem sensorAt_bad {m : LinkMode} (sensing : m ≠ .declared) (bad : 11 < f.byte 5 ∨ 1 < f.byte 6) :
    sensorAt m (byteAt (storedBytes code f) 5) (byteAt (storedBytes code f) 6) = none := by
  cases m with
  | declared => exact absurd rfl sensing
  | sensed | checked =>
    simp only [sensorAt]
    rcases bad with bad | bad
    · rw [byteAt_storedBytes code f (i := 5) (by decide) (by decide), auxOfByte_above bad (clockedByte_lt f 5)]
    · rw [named_none (ofByte_iff_code _).2.2.1 Polarity.code_le (by rwa [byteAt_toNat code f (by decide) (by decide)])]
      split <;> simp_all

theorem State.definedEnd_val {s : State} {x : SegId} {i : Nat} (first : 1 ≤ i) (stored : i < 64)
    (named : f.byte i = x.val) (defined : (s.seg x).isSome) :
    s.definedEnd (byteAt (storedBytes code f) i) = some x := by
  rw [State.definedEnd, byteAt_storedBytes code f first stored, segOfByte_val named]
  exact if_pos defined

theorem State.definedEnd_bad {s : State} {i : Nat} (first : 1 ≤ i) (stored : i < 64)
    (free : ∀ x : SegId, x.val = f.byte i → s.seg x = none) :
    s.definedEnd (byteAt (storedBytes code f) i) = none := by
  unfold State.definedEnd
  split
  · next x named =>
    rw [byteAt_storedBytes code f first stored] at named
    unfold segOfByte at named
    split at named
    · cases named
      rw [if_neg]
      rw [free _ (by simp [Nat.mod_eq_of_lt (clockedByte_lt f i)])]
      decide
    · cases named
  · rfl

end Operands

/-! ## The records of DEFINE and DECLARE LINK -/

theorem sensedOf_eq (p : Polarity) (high : Bool) :
    sensedOf p high = if high = true ↔ p = .normallyOpen then .closed else .opened := by
  cases p <;> cases high <;> rfl

theorem Link.define_declared (a b : SegId) (high : Bool) (d : Contact) (now : Uptime) :
    Link.define a b .declared none high d now =
      { endA := a, endB := b, mode := .declared, aux := none, polarity := none, declared := d, sensed := none,
        effective := d, disagreeStart := none, disagreeFlag := false } := rfl

/-- A link with a sensor at its definition: the effective state of its mode, and a disagreement in CHECKED mode (R24, R25,
R33). -/
theorem Link.define_sensing {m : LinkMode} (sensing : m ≠ .declared) (a b : SegId) (ln : AuxLine) (pol : Polarity)
    (high : Bool) (d : Contact) (now : Uptime) :
    Link.define a b m (some (ln, pol)) high d now =
      { endA := a, endB := b, mode := m, aux := some ln, polarity := some pol, declared := d,
        sensed := some (sensedOf pol high),
        effective := if m = .sensed then sensedOf pol high
          else if d = .closed ∨ sensedOf pol high = .closed then .closed else .opened,
        disagreeStart := if m = .checked ∧ sensedOf pol high ≠ d then some now else none, disagreeFlag := false } := by
  generalize sensed : sensedOf pol high = sc
  cases m with
  | declared => exact absurd rfl sensing
  | sensed => simp [Link.define, Link.deriveEffective, Link.judge, effectiveOf, sensed]
  | checked =>
    by_cases agrees : sc = d <;> simp [Link.define, Link.deriveEffective, Link.judge, effectiveOf, sensed, agrees]

/-- Settles O30. -/
theorem Statements.defineLink : Obligations.DefineLink := by
  unfold Obligations.DefineLink
  intro f s ready long
  have command := Commands.defineLink f
  refine ⟨fun bad => ?_, fun i target => ⟨fun l held => ?_, fun free ends => ?_, fun a b free endA endB defA defB => ?_⟩⟩
  · exact command.completes_plain ready (by omega) (by simp only [Machine.defineLink, linkTarget_bad bad])
  · exact command.completes_plain ready (by omega) (by simp only [Machine.defineLink, linkTarget target, held])
  · refine command.completes_plain ready (by omega) ?_
    simp only [Machine.defineLink, linkTarget target, free]
    rcases ends with bad | bad
    · rw [State.definedEnd_bad (i := 2) (by decide) (by decide) bad]
    · rw [State.definedEnd_bad (i := 3) (by decide) (by decide) bad]
      split <;> simp_all
  have first := State.definedEnd_val (code := 0x30#8) (by decide) (by decide) endA defA
  have second := State.definedEnd_val (code := 0x30#8) (by decide) (by decide) endB defB
  refine ⟨fun same => ?_, fun distinct bad => ?_, fun distinct mode declared bad => ?_,
    fun d t distinct mode declared ht => ?_,
    fun m d sc eff ln pol t distinct sensing mode declared line polarity hsc heff ht => ?_⟩
  · exact command.completes_plain ready (by omega)
      (by simp only [Machine.defineLink, linkTarget target, free, first, second, same, if_true])
  · refine command.completes_plain ready (by omega) ?_
    simp only [Machine.defineLink, linkTarget target, free, first, second, distinct, if_false]
    rcases bad with bad | bad
    · rw [modeAt_bad bad]
    · rw [contactAt_bad (i := 7) (by decide) (by decide) bad]
      split <;> simp_all
  · obtain ⟨m, code, sensing⟩ : ∃ m : LinkMode, m.code = f.byte 4 ∧ m ≠ .declared := by
      rcases mode with mode | mode
      exacts [⟨.sensed, mode.symm, by decide⟩, ⟨.checked, mode.symm, by decide⟩]
    obtain ⟨d, declared⟩ := exists_contact declared
    exact command.completes_plain ready (by omega)
      (by simp only [Machine.defineLink, linkTarget target, free, first, second, distinct, if_false, modeAt code,
            contactAt (by decide) (by decide) declared, sensorAt_bad sensing bad])
  · have code : LinkMode.declared.code = f.byte 4 := mode.symm
    refine command.completes_plain ready (by omega) ?_
    simp only [Machine.defineLink, linkTarget target, free, first, second, distinct, if_false, modeAt code,
      contactAt (by decide) (by decide) declared, sensorAt, Link.define_declared, ht] <;> rfl
  · refine command.completes_plain ready (by omega) ?_
    have level : s.auxLevel ln = (s.aux[ln]).level := rfl
    simp only [Machine.defineLink, linkTarget target, free, first, second, distinct, if_false, modeAt mode,
      contactAt (by decide) (by decide) declared, sensorAt_of_sensing sensing line polarity, Option.any_some,
      Link.define_sensing sensing, level, sensedOf_eq, ← hsc, ← heff, ht]

/-- The record after a declaration of a new state (R25, R27, R33, R35). -/
theorem Link.declare_eq {l : Link} (mode : l.mode ≠ .sensed) (d : Contact) (now : Uptime) :
    ({ l with declared := d } : Link).deriveEffective.judge now =
      { l with
        declared := d,
        effective := if l.mode = .declared then d else if d = .closed ∨ l.sensed = some .closed then .closed else .opened,
        disagreeStart := if l.mode = .declared then l.disagreeStart
          else if l.sensed = some d then none else some (l.disagreeStart.getD now),
        disagreeFlag := if l.mode = .checked ∧ l.sensed = some d then false else l.disagreeFlag } := by
  obtain ⟨_, _, m, _, _, _, sensed, _, start, _⟩ := l
  cases m with
  | sensed => exact absurd rfl mode
  | declared => simp [Link.deriveEffective, Link.judge, effectiveOf]
  | checked =>
    by_cases agrees : sensed = some d <;> cases start <;>
      simp [Link.deriveEffective, Link.judge, effectiveOf, agrees]

/-- Settles O31. -/
theorem retireAndDeclareLink : Obligations.RetireAndDeclareLink := by
  unfold Obligations.RetireAndDeclareLink
  refine fun f s ready => ⟨fun long => ?_, fun long => ?_⟩
  · have command := Commands.retireLink f
    refine ⟨fun bad => ?_, fun i target => ⟨fun free => ?_, fun l held => ?_⟩⟩
    · exact command.completes_plain ready (by omega) (by simp only [Machine.retireLink, linkTarget_bad bad])
    · exact command.completes_plain ready (by omega) (by simp only [Machine.retireLink, linkTarget target, free])
    · exact command.completes_plain ready (by omega) (by simp only [Machine.retireLink, linkTarget target, held])
  · have command := Commands.declareLink f
    refine ⟨fun bad => ?_, fun i target => ⟨fun free => ?_, fun l held => ⟨fun mode => ?_, fun mode bad => ?_,
      fun d mode declared => ⟨fun same => ?_, fun eff t changed heff ht => ?_⟩⟩⟩⟩
    · exact command.completes_plain ready (by omega) (by simp only [Machine.declareLink, linkTarget_bad bad])
    · exact command.completes_plain ready (by omega) (by simp only [Machine.declareLink, linkTarget target, free])
    · exact command.completes_plain ready (by omega)
        (by simp only [Machine.declareLink, linkTarget target, held, mode, if_true])
    · exact command.completes_plain ready (by omega)
        (by simp only [Machine.declareLink, linkTarget target, held, mode, if_false,
              contactAt_bad (i := 2) (by decide) (by decide) bad])
    · exact command.completes_plain ready (by omega)
        (by simp only [Machine.declareLink, linkTarget target, held, mode, if_false,
              contactAt (i := 2) (by decide) (by decide) declared, same, if_true])
    · exact command.completes_plain ready (by omega)
        (by simp only [Machine.declareLink, linkTarget target, held, mode, if_false,
              contactAt (i := 2) (by decide) (by decide) declared, changed, Link.declare_eq mode, ← heff, ht])

/-! ## The 1 ms samples -/

theorem Filter.sample_eq (f : Filter) (raw : Bool) (debounce : Nat) :
    f.sample raw debounce =
      if raw = f.level then { level := f.level, run := 0, due := false }
      else { level := f.level, run := f.run + 1, due := decide (debounce ≤ f.run + 1) } := rfl

section Sense

variable (b : Bridge) (p n : Bool)

theorem Bridge.sense_kept : b.sense p n =
    { b with snsP := p, snsN := n, sampled := true, timeout := (b.sense p n).timeout, watchP := (b.sense p n).watchP,
             watchN := (b.sense p n).watchN } := by
  obtain ⟨state, _, phase, _⟩ := b
  cases state <;> cases phase <;> simp only [Bridge.sense] <;> split <;> rfl

/-- The timeout count advances with a sample in CLOSING that does not read the phase closed, and in OPENING with one that
does not read both senses open (R69, R71). -/
theorem Bridge.sense_timeout : (b.sense p n).timeout =
    if (b.state = .closing ∧ (b.sense p n).sense? b.phase = false) ∨
        (b.state = .opening ∧ ((b.sense p n).snsP = true ∨ (b.sense p n).snsN = true)) then min 20 (b.timeout + 1)
    else b.timeout := by
  obtain ⟨state, _, phase, _⟩ := b
  cases state <;> cases phase <;> cases p <;> cases n <;>
    simp only [Bridge.sense, Bridge.sense?, countUp, Config.watchLength] <;> split <;> simp_all

/-- A side that is not watched keeps its count, one at the expected state has count 0, and one at the wrong state one more
up to 20 (R70, R72, R74). -/
theorem Bridge.sense_count (side : Phase) :
    (¬ b.Watches side → (b.sense p n).count side = b.count side) ∧
    (b.Watches side → ((b.sense p n).sense? side = true ↔ b.Expects side) → (b.sense p n).count side = 0) ∧
    (b.Watches side → ¬ ((b.sense p n).sense? side = true ↔ b.Expects side) →
      (b.sense p n).count side = min 20 (b.count side + 1)) := by
  obtain ⟨state, _, phase, _⟩ := b
  cases state <;> cases phase <;> cases side <;> cases p <;> cases n <;>
    simp [Bridge.sense, Bridge.Watches, Bridge.Expects, Bridge.sense?, Bridge.count, watch, countUp, Config.watchLength] <;>
    simp_all

end Sense

end Sys2Proof.Machine

/-! # The events of the time base and of the contact filters (R20, R29 to R37, R55, R66) -/

namespace Sys2Proof.Machine

/-- Settles O32. -/
theorem uptimeAdvanceSamples : Obligations.UptimeAdvanceSamples := by
  unfold Obligations.UptimeAdvanceSamples
  intro raw s up
  have taken : exec (.uptimeAdvance raw) s = .next (s.tick raw) :=
    congrArg Host.Outcome.next (if_pos (s.running_iff.mpr up))
  have sensed (b : BridgeId) :
      (s.tick raw).bridge b = (s.bridge b).sense (raw.snsP.getLsbD b.val) (raw.snsN.getLsbD b.val) :=
    State.bridge_ofFn (f := fun i => (s.bridges[i]).sense (raw.snsP.getLsbD i.val) (raw.snsN.getLsbD i.val)) rfl b
  refine ⟨s.tick raw, taken, rfl, fun i => ?_, fun i => ?_, fun b => ?_, fun b => ?_, fun b side => ?_,
    fun b side => ?_, fun b side => ?_⟩
  · simp [State.tick, Filter.sample_eq]
  · simp [State.tick, Filter.sample_eq]
  all_goals rw [sensed b]
  · exact Bridge.sense_kept _ _ _
  · exact Bridge.sense_timeout _ _ _
  · exact (Bridge.sense_count _ _ _ side).1
  · exact (Bridge.sense_count _ _ _ side).2.1
  · exact (Bridge.sense_count _ _ _ side).2.2

/-! ## A filtered change of an AUX line -/

/-- The record of a link on the line whose sensed state changes (R25, R32, R33, R35). -/
theorem Link.follow_eq {l : Link} {line : AuxLine} {pol : Polarity} (aux : l.aux = some line)
    (polarity : l.polarity = some pol) (high : Bool) (now : Uptime) :
    l.follow line high now =
      if l.sensed = some (sensedOf pol high) then l
      else
        { l with
          sensed := some (sensedOf pol high), effective := effectiveOf l.mode l.declared (some (sensedOf pol high)),
          disagreeStart :=
            if l.mode ≠ .checked then l.disagreeStart
            else if sensedOf pol high = l.declared then none else some (l.disagreeStart.getD now),
          disagreeFlag := if l.mode = .checked ∧ sensedOf pol high = l.declared then false else l.disagreeFlag } := by
  generalize sensed : sensedOf pol high = sc
  by_cases same : l.sensed = some sc
  · simp [Link.follow, aux, polarity, sensed, same]
  · obtain ⟨_, _, m, _, _, d, _, _, start, _⟩ := l
    by_cases checked : m = .checked <;> by_cases agrees : sc = d <;> cases start <;>
      simp_all [Link.follow, Link.deriveEffective, Link.judge]

theorem Link.follow_other {l : Link} {line : AuxLine} (other : l.aux ≠ some line ∨ l.polarity = none) (high : Bool)
    (now : Uptime) : l.follow line high now = l := by
  unfold Link.follow
  split
  · next a p aux polarity =>
    rw [if_neg]
    rintro ⟨rfl, -⟩
    exact other.elim (· aux) fun none_ => by rw [none_] at polarity; cases polarity
  · rfl

@[simp] theorem State.link_followLinks (s : State) (line : AuxLine) (high : Bool) (i : LinkId) :
    (s.followLinks line high).link i = (s.link i).map (·.follow line high s.uptime) := by
  simp [State.followLinks, State.link]

/-- A state that differs from another in its link table only, with every link as it follows the line (R32). -/
theorem State.eq_followLinks {t v : State} {line : AuxLine} {high : Bool} (rest : v = { t with links := v.links })
    (follows : ∀ i, v.link i = (t.link i).map (·.follow line high t.uptime)) : v = t.followLinks line high := by
  have links : v.links = (t.followLinks line high).links := Vector.ext fun i inside => by
    have same := follows ⟨i, inside⟩
    rwa [← t.link_followLinks] at same
  rw [links] at rest
  exact rest

/-- Two states that differ in their segment tables only are told apart by a segment. -/
theorem State.eq_of_segs {v t : State} (same : ∀ x, v.seg x = t.seg x) (rest : v = { t with segs := v.segs }) :
    v = t := by
  have segs : v.segs = t.segs := Vector.ext fun i inside => same ⟨i, inside⟩
  rw [segs] at rest
  exact rest

theorem effectiveChanged_iff (s t : State) :
    effectiveChanged s t = true ↔ ∃ i, (s.link i).map (·.effective) ≠ (t.link i).map (·.effective) := by
  simp [effectiveChanged, mem_allLinks]

/-- Settles O33: the links named are those of `followLinks`. -/
theorem filteredChangeAux : Obligations.FilteredChangeAux := by
  unfold Obligations.FilteredChangeAux
  intro line s v up due hv free other on
  have high : (s.aux[line]).change.level = !(s.aux[line]).level := rfl
  have followed : v = { s with aux := s.aux.set line (s.aux[line]).change }.followLinks line (s.aux[line]).change.level := by
    refine State.eq_followLinks (t := { s with aux := s.aux.set line (s.aux[line]).change }) hv fun i => ?_
    change v.link i = (s.link i).map fun l => l.follow line (s.aux[line]).change.level s.uptime
    cases held : s.link i with
    | none => exact free i held
    | some l =>
      by_cases apart : l.aux ≠ some line ∨ l.polarity = none
      · rw [other i l held apart, Option.map_some, Link.follow_other apart]
      · rw [not_or, not_not] at apart
        obtain ⟨aux, polarity⟩ := apart
        obtain ⟨pol, polarity⟩ := Option.ne_none_iff_exists'.mp polarity
        rw [on i l pol (sensedOf pol (s.aux[line]).change.level) held aux polarity
          (by simp only [sensedOf_eq, high, Bool.not_eq_true']), Option.map_some, Link.follow_eq aux polarity]
  refine (Occurs.filteredChangeAux line).happens up due ?_
  simp only [State.changeAux, ← followed, effectiveChanged_iff]

/-! ## A filtered change of an EXT line -/

theorem State.readsFault_iff (s : State) (src : Source) :
    src.readsFault (s.ext[0]).level (s.ext[1]).level = true ↔ s.ReadsFault src := by
  cases src <;> simp [Source.readsFault, State.ReadsFault]

theorem Source.line_eq_iff (src : Source) (line : ExtLine) : src.line = some line ↔ src.Selects line := by
  cases src <;> simp [Source.line, Source.Selects, eq_comm]

theorem Option.any_iff_exists {α : Type} {o : Option α} {p : α → Bool} : o.any p = true ↔ ∃ a, o = some a ∧ p a = true := by
  cases o <;> simp

theorem State.verdict_fault_iff (s : State) (ms : List SegId) :
    s.verdict ms = .fault ↔ ∃ x ∈ ms, ∃ g, s.seg x = some g ∧ s.ReadsFault g.source := by
  simp only [State.verdict, ← State.readsFault_iff]
  split
  · next reads => simpa only [List.any_eq_true, Option.any_iff_exists, true_iff] using reads
  · next reads => simpa only [List.any_eq_true, Option.any_iff_exists, reduceCtorEq, false_iff] using reads

theorem Verdict.eq_ok_iff (v : Verdict) : v = .ok ↔ ¬ v = .fault := by cases v <;> simp

theorem Segment.applyVerdict_fault (g : Segment) : g.applyVerdict .fault = g.movedTo .fault := g.setAlarm_eq_movedTo _

theorem Segment.applyVerdict_ok (g : Segment) :
    g.applyVerdict .ok = if g.alarm = .fault ∧ g.latch = true then g else g.movedTo .clear := by
  simp only [Segment.applyVerdict, g.setAlarm_eq_movedTo, g.latched_iff, and_comm]

/-- Settles O34: the segments named are those of `handVerdicts`. -/
theorem filteredChangeExt : Obligations.FilteredChangeExt := by
  unfold Obligations.FilteredChangeExt
  refine ⟨State.verdict_fault_iff, fun line s v up due hv free verdicts => ?_⟩
  have handed : { s with ext := s.ext.set line (s.ext[line]).change }.handVerdicts line = v := by
    refine (State.eq_of_segs (fun x => ?_) hv).symm
    refine Eq.symm ?_
    have reads (src : Source) :
        ({ s with ext := s.ext.set line (s.ext[line]).change } : State).ReadsFault src ↔ v.ReadsFault src := by
      rw [hv]; exact .rfl
    rw [State.handVerdicts, State.seg_mapSegs]
    change (s.seg x).map _ = _
    cases held : s.seg x with
    | none => exact (free x held).symm
    | some g =>
      obtain ⟨unchanged, changed⟩ := verdicts x g held
      rw [Option.map_some]
      change some (match s.netOf x with | some n => _ | none => _) = _
      cases net : s.netOf x with
      | none => exact (unchanged fun n e => by rw [net] at e; cases e).symm
      | some n =>
        dsimp only
        split
        · next selects =>
          obtain ⟨external, selects⟩ := selects
          simp only [List.any_eq_true, Option.any_iff_exists, beq_iff_eq, Source.line_eq_iff] at selects
          obtain ⟨y, member, h, here, selects⟩ := selects
          obtain ⟨faulty, clean⟩ := changed n y h net external member here selects
          cases verdict : State.verdict { s with ext := s.ext.set line (s.ext[line]).change } n.members with
          | fault =>
            obtain ⟨z, zMember, k, zHeld, zReads⟩ := (State.verdict_fault_iff _ _).mp verdict
            rw [faulty ⟨z, k, zMember, zHeld, (reads _).mp zReads⟩, Segment.applyVerdict_fault]
          | ok =>
            rw [Verdict.eq_ok_iff, State.verdict_fault_iff] at verdict
            rw [clean fun z k zMember zHeld zReads => verdict ⟨z, zMember, k, zHeld, (reads _).mpr zReads⟩,
              Segment.applyVerdict_ok]
        · next spared =>
          refine (unchanged fun m e external y h member here selects => spared ?_).symm
          rw [net] at e
          obtain rfl := Option.some.inj e
          refine ⟨external, ?_⟩
          simp only [List.any_eq_true, Option.any_iff_exists, beq_iff_eq, Source.line_eq_iff]
          exact ⟨y, member, h, here, selects⟩
  exact (Occurs.filteredChangeExt line).happens up due handed

end Sys2Proof.Machine

/-! # The grant, the phases and the timers of a net (R51, R57, R58, R64, R65, R71, R82 to R90) -/

namespace Sys2Proof.Machine

/-! ## Updates of a net record -/

section ModNet

variable (s : State) (a : SegId) (f g : Net → Net)

theorem State.modNet_congr {s : State} {a : SegId} {f g : Net → Net}
    (same : ∀ m ∈ s.nets, m.anchor = a → f m = g m) : s.modNet a f = s.modNet a g := by
  refine congrArg (fun ns => ({ s with nets := ns } : State)) (List.map_congr_left fun m held => ?_)
  split
  · next at_ => exact same m held at_
  · rfl

theorem State.modNet_modNet (anchored : ∀ m, (f m).anchor = m.anchor) :
    (s.modNet a f).modNet a g = s.modNet a fun m => g (f m) := by
  unfold State.modNet
  refine congrArg (fun ns => ({ s with nets := ns } : State)) ?_
  rw [List.map_map]
  refine List.map_congr_left fun m _ => ?_
  by_cases at_ : m.anchor = a <;> simp [at_, anchored]

theorem State.netAt_modNet (anchored : ∀ m, (f m).anchor = m.anchor) :
    (s.modNet a f).netAt a = (s.netAt a).map f := by
  simp only [State.netAt, State.modNet, List.find?_map]
  have same : (fun n : Net => decide ((if n.anchor = a then f n else n).anchor = a)) = fun n => decide (n.anchor = a) := by
    funext n
    by_cases at_ : n.anchor = a <;> simp [at_, anchored]
  rw [Function.comp_def, same]
  cases found : s.nets.find? fun n => decide (n.anchor = a) with
  | none => rfl
  | some n =>
    have at_ : n.anchor = a := by simpa using List.find?_some found
    simp [at_]

end ModNet

/-! ## The rotation -/

theorem rotation_pairwise (last : Option BridgeId) :
    (rotation last).Pairwise fun b c => rank last b < rank last c := by
  revert last; decide

theorem mem_rotation (last : Option BridgeId) (b : BridgeId) : b ∈ rotation last := by
  revert b; revert last; decide

/-- In a list ordered by a rank, the first element that passes a test is the passing one of least rank. -/
theorem find?_eq_some_iff_least {α : Type} {r : α → Nat} {p : α → Bool} {l : List α}
    (ordered : l.Pairwise fun b c => r b < r c) (b : α) :
    l.find? p = some b ↔ b ∈ l ∧ p b = true ∧ ∀ c ∈ l, p c = true → r b ≤ r c := by
  induction l with
  | nil => simp
  | cons d l ih =>
    obtain ⟨first, ordered⟩ := List.pairwise_cons.mp ordered
    cases passes : p d with
    | true =>
      rw [List.find?_cons_of_pos passes, Option.some.injEq]
      refine ⟨?_, fun ⟨member, passesB, least⟩ => ?_⟩
      · rintro rfl
        refine ⟨List.mem_cons_self, passes, fun c member _ => ?_⟩
        rcases List.mem_cons.mp member with rfl | later
        exacts [Nat.le_refl _, Nat.le_of_lt (first c later)]
      · rcases List.mem_cons.mp member with same | later
        · exact same.symm
        · have := least d List.mem_cons_self passes
          have := first b later
          omega
    | false =>
      rw [List.find?_cons_of_neg (by simp [passes]), ih ordered]
      simp only [List.mem_cons, forall_eq_or_imp, passes, Bool.false_eq_true, false_imp_iff, true_and]
      refine and_congr_left fun ⟨passesB, _⟩ => (or_iff_right ?_).symm
      rintro rfl
      rw [passes] at passesB
      cases passesB

/-- The bridge a cycle start is granted to is the grantee of R57. -/
theorem State.nextBridge_eq_some_iff (s : State) (n : Net) (b : BridgeId) :
    s.nextBridge n = some b ↔ s.Grantee n b := by
  unfold State.nextBridge State.Grantee
  rw [find?_eq_some_iff_least (rotation_pairwise n.lastGranted)]
  simp only [mem_rotation, true_and, Bool.and_eq_true, List.contains_iff_mem, beq_iff_eq, and_assoc, and_imp,
    forall_true_left]

theorem State.nextBridge_isSome_iff (s : State) (n : Net) :
    (s.nextBridge n).isSome = true ↔ ∃ b ∈ n.bridges, (s.bridge b).state = .parked := by
  simp [State.nextBridge, List.find?_isSome, mem_rotation]

theorem State.nextBridge_eq_none_iff (s : State) (n : Net) :
    s.nextBridge n = none ↔ ∀ b ∈ n.bridges, (s.bridge b).state ≠ .parked := by
  rw [← Option.not_isSome_iff_eq_none, s.nextBridge_isSome_iff]
  simp

/-- Settles O43. -/
theorem cycleStartGrants : Obligations.CycleStartGrants := by
  unfold Obligations.CycleStartGrants
  refine fun s a n net only => ⟨fun b grantee => ?_, fun none_ rest => ?_⟩
  · simp only [State.startCycle, net, (s.nextBridge_eq_some_iff n b).mpr grantee]
    refine congrArg (State.modBridge · b (·.closeP s.uptime)) (State.modNet_congr fun m held at_ => ?_)
    rw [only m held at_]
    rfl
  · simp only [State.startCycle, net, (s.nextBridge_eq_none_iff n).mpr none_]
    exact State.modNet_congr fun m held at_ => if_pos (by rw [only m held at_, rest])

/-! ## The tests of a net that waits -/

theorem QuietPeriod.over_iff (q : QuietPeriod) (now : Uptime) :
    q.over now = true ↔ q.expired = true ∨ q.length < (now - q.start).toNat := by
  change (q.expired || decide (q.length < (now - q.start).toNat)) = true ↔ _
  rw [Bool.or_eq_true, decide_eq_true_eq]

theorem State.bridgesSettled_iff (s : State) (n : Net) : s.bridgesSettled n = true ↔
    ∀ b ∈ n.bridges, (s.bridge b).state = .parked ∨ (s.bridge b).state = .faulted := by
  simp [State.bridgesSettled]

/-- The test that a waiting net makes (R51, R58). -/
def State.waits (s : State) (n : Net) : Bool :=
  s.quietOver n || (n.state == .rest && n.startPending && (s.nextBridge n).isSome)

theorem State.waits_iff (s : State) (n : Net) : s.waits n = true ↔ s.WaitIsOver n n.bridges := by
  simp only [State.waits, State.quietOver, State.WaitIsOver, Bool.or_eq_true, Bool.and_eq_true, beq_iff_eq,
    Option.any_iff_exists, QuietPeriod.over_iff, s.bridgesSettled_iff, s.nextBridge_isSome_iff, and_assoc]

theorem State.testWaiting_of_net {s : State} {a : SegId} {n : Net} (net : s.netAt a = some n) :
    s.testWaiting a = if s.waits n then s.startCycle a else s := by
  simp only [State.testWaiting, net] <;> rfl

/-- Settles O46: the expiry that is taken makes the quiet period over. -/
theorem quietAndSpacingExpiry : Obligations.QuietAndSpacingExpiry := by
  unfold Obligations.QuietAndSpacingExpiry
  refine fun a n s up net => ⟨fun q u state quiet passed hu => ?_, fun q state spacing passed => ?_⟩
  · refine (Occurs.quietTimerExpiry a).happens up ?_ ?_
    · rw [net, Option.any_some, n.quietDue_iff]
      exact ⟨state, q, quiet, passed⟩
    · have here : u.netAt a = some { n with quiet := some { q with expired := true } } := by
        rw [hu, State.netAt_modNet, net, Option.map_some, quiet]
        · rfl
        · exact fun _ => rfl
      have waits : u.waits { n with quiet := some { q with expired := true } } = true ↔
          ∀ b ∈ n.bridges, (s.bridge b).state = .parked ∨ (s.bridge b).state = .faulted := by
        have bridges (b : BridgeId) : u.bridge b = s.bridge b := by rw [hu]; rfl
        rw [u.waits_iff]
        simp [State.WaitIsOver, state, bridges]
      rw [State.takeQuiet, ← hu, State.testWaiting_of_net here]
      exact if_congr waits rfl rfl
  · refine (Occurs.spacingExpiry a).happens up ?_ rfl
    rw [net, Option.any_some, n.spacingDue_iff]
    exact ⟨state, q, spacing, passed⟩

/-- Settles O41: the arrival is reported to the net of the bridge, which takes the end of RELEASE or makes its test. -/
theorem openConfirmation : Obligations.OpenConfirmation := by
  unfold Obligations.OpenConfirmation
  intro b s v up state sampled timeout snsP snsN hv
  have isDue : (s.bridge b).openConfirmed = true :=
    (Bridge.openConfirmed_iff _).mpr ⟨state, sampled, snsP, snsN, timeout⟩
  have parked : s.modBridge b (·.enterParked s.uptime) = v := hv.symm
  have sameNet : v.netOfBridge b = s.netOfBridge b := by
    rw [State.netOfBridge, hv, State.bridge_modBridge, if_pos rfl]; rfl
  refine ⟨fun crossing => ?_, fun straight none_ => ?_, fun n w straight net at_ hw => ⟨fun release grant => ?_, fun other => ?_⟩⟩
  · refine (Occurs.openConfirmation b).happens up isDue ?_
    rw [State.confirmOpen, crossing]
    rfl
  · refine (Occurs.openConfirmation b).happens up isDue ?_
    simp only [State.confirmOpen, straight, Bool.false_eq_true, if_false, parked, State.reportParked, sameNet, none_]
  · have here : v.netAt n.anchor = some n := by rw [hv]; exact at_
    have ends : w = v.modNet n.anchor fun m =>
        { m.idle with supervision := m.supervision, state := .rest,
                      spacing := some { start := v.uptime, length := v.timing.spacing } } := by
      rw [hw, hv]; rfl
    refine (Occurs.openConfirmation b).happens up isDue ?_
    simp only [State.confirmOpen, straight, Bool.false_eq_true, if_false, parked, State.reportParked, sameNet, net, release, grant, and_self, if_true,
      State.endRelease, here, ← ends]
    refine if_congr ?_ rfl rfl
    have spots (x : SegId) : v.spotPending x = (s.seg x).any fun g => g.spot.isSome := by rw [hv]; rfl
    have spacing : v.timing = s.timing := by rw [hv]; rfl
    simp [spots, spacing, Option.any_iff_exists, Option.isSome_iff_ne_none, or_comm]
  · have here : v.netAt n.anchor = some n := by rw [hv]; exact at_
    refine (Occurs.openConfirmation b).happens up isDue ?_
    simp only [State.confirmOpen, straight, Bool.false_eq_true, if_false, parked, State.reportParked, sameNet, net, other,
      State.testWaiting_of_net here]
    refine if_congr ?_ rfl rfl
    rw [v.waits_iff, State.WaitIsOver, show v.uptime = s.uptime by rw [hv]; rfl]

/-! ## The settle window -/

theorem span_le_iff (vs : List Nat) (eps : Nat) : span vs ≤ eps ↔ ∀ y ∈ vs, ∀ z ∈ vs, y ≤ z + eps := by
  cases vs with
  | nil => simp [span]
  | cons v rest =>
    obtain ⟨maxMem, le_max⟩ := List.max?_eq_some_iff.mp (List.max?_cons' (x := v) (xs := rest))
    obtain ⟨minMem, min_le⟩ := List.min?_eq_some_iff.mp (List.min?_cons' (x := v) (xs := rest))
    simp only [span, Nat.sub_le_iff_le_add]
    refine ⟨fun narrow y hy z hz => ?_, fun all => ?_⟩
    · have := le_max y hy
      have := min_le z hz
      omega
    · have := all _ maxMem _ minMem
      omega

theorem settled_iff (w : List Sample) (eps : Nat) : settled w eps = true ↔
    w.length = 8 ∧ ∀ y ∈ w, ∀ z ∈ w, y.up ≤ z.up + eps ∧ y.un ≤ z.un + eps := by
  change (decide (w.length = 8) && decide (span (w.map (·.up)) ≤ eps) && decide (span (w.map (·.un)) ≤ eps)) = true ↔ _
  simp only [Bool.and_eq_true, decide_eq_true_eq, span_le_iff, List.forall_mem_map, and_assoc, forall_and]

theorem pushSample_eq (w : List Sample) (x : Sample) :
    pushSample w x = if w.length < 8 then w ++ [x] else (w ++ [x]).drop (w.length - 7) := by
  change (if w.length < 8 then w else w.drop (w.length + 1 - 8)) ++ [x] = _
  by_cases short : w.length < 8
  · rw [if_pos short, if_pos short]
  · rw [if_neg short, if_neg short, List.drop_append_of_le_length (by omega)]
    rfl

/-- The values of a phase over a full window (R85). -/
theorem phaseValues_of_full {w : List Sample} (full : w.length = 8) (unsettled : Bool) :
    phaseValues w unsettled =
      { up := ((w.map (·.up)).sum + 4) / 8, un := ((w.map (·.un)).sum + 4) / 8, overRange := w.any (·.overRange),
        unsettled := unsettled } := by
  simp [phaseValues, windowMean, Config.windowLength, full]

/-- Settles O45. -/
theorem maxDwellTimerExpiry : Obligations.MaxDwellTimerExpiry := by
  unfold Obligations.MaxDwellTimerExpiry
  intro a n b c v s up net grant confirmation passed full hv
  have due (state : n.state = .phaseP ∨ n.state = .phaseN) : s.maxDwellDue a = some n :=
    (State.maxDwellDue_eq_some_iff a n).mpr ⟨net, b, c, state, grant, confirmation, passed⟩
  have anchor : n.anchor = a := by simpa using List.find?_some net
  have value : phaseValues n.window true = v := (phaseValues_of_full full true).trans hv.symm
  refine ⟨fun state => ?_, fun p g state phaseP references => ?_⟩
  · refine (Occurs.maxDwellTimerExpiry a).happens up (by rw [due (.inl state)]; rfl) ?_
    simp only [State.takeMaxDwell, due (.inl state), State.endPhase, state, grant, value, State.crossOver, anchor]
  · refine (Occurs.maxDwellTimerExpiry a).happens up (by rw [due (.inr state)]; rfl) ?_
    simp only [State.takeMaxDwell, due (.inr state), State.endPhase, state, grant, phaseP, references, value]

/-! ## The sample event -/

theorem channelOverRange_iff (code gain : Nat) : channelOverRange code gain = true ↔
    code = 65535 ∨ 16000 < (code * gain + 131072) / 262144 := by
  change (code == 65535 || decide (16000 < (code * gain + 131072) / 262144)) = true ↔ _
  rw [Bool.or_eq_true, beq_iff_eq, decide_eq_true_eq]

/-- The completion of a cycle discards the settle window of its net, whatever it holds (R80). -/
theorem State.complete_window (s : State) (n : Net) (w : List Sample) (b : BridgeId) (g : References)
    (p v : PhaseValues) :
    (s.modNet n.anchor fun m => { m with window := w }).complete { n with window := w } b g p v = s.complete n b g p v := by
  have net (r : NetResult) :
      ((s.modNet n.anchor fun m => { m with window := w }).modBridge b (·.openSwitches s.uptime)).modNet n.anchor
          (·.completed r) = (s.modBridge b (·.openSwitches s.uptime)).modNet n.anchor (·.completed r) := by
    have commuted : (s.modNet n.anchor fun m => { m with window := w }).modBridge b (·.openSwitches s.uptime) =
        (s.modBridge b (·.openSwitches s.uptime)).modNet n.anchor fun m => { m with window := w } := rfl
    rw [commuted, State.modNet_modNet]
    · rfl
    · exact fun _ => rfl
  simp only [State.complete, State.modNet_uptime, State.modNet_timing, net]

/-- Settles O39: the sample joins the window of the net that granted the bridge, and the settle test decides. -/
theorem sampleEventConverts : Obligations.SampleEventConverts := by
  unfold Obligations.SampleEventConverts
  intro b cp cn s v x up cause hup hun hover hv
  have isDue : ((s.bridge b).cause != some .trim) = true := by simpa using cause
  have converted : s.modBridge b (·.takeSample cp cn) = v := by
    rw [hv]
    refine State.modBridge_congr ?_
    have range : (channelOverRange cp.toNat (s.bridge b).trim.gainP.toNat ||
        channelOverRange cn.toNat (s.bridge b).trim.gainN.toNat) = x.overRange := by
      rw [Bool.eq_iff_iff, hover, Bool.or_eq_true, channelOverRange_iff, channelOverRange_iff]
      tauto
    rw [Bridge.takeSample, range, hup, hun]
    rfl
  have bridge : v.bridge b = { s.bridge b with up := x.up, un := x.un, overRange := x.overRange } := by
    rw [hv, State.bridge_modBridge, if_pos rfl]
  have state : (v.bridge b).state = (s.bridge b).state := by rw [bridge]
  have sample : (v.bridge b).sample = x := by rw [bridge]; rfl
  have sameNet : v.netOfBridge b = s.netOfBridge b := by
    rw [State.netOfBridge, bridge, hv]; rfl
  refine ⟨fun still => ?_, fun n c win settling net progress grant confirmation hwin => ?_⟩
  · refine (Occurs.sampleEvent b cp cn).happens up isDue ?_
    simp only [State.sampleBridge, converted, state, still, if_false]
  · rw [← pushSample_eq] at hwin
    have handed : s.sampleBridge b cp cn =
        if settled win c.epsilon then
          (v.modNet n.anchor fun m => { m with window := win }).endPhase { n with window := win } false
        else v.modNet n.anchor fun m => { m with window := win } := by
      simp only [State.sampleBridge, converted, state, settling, if_true, State.handSample, sameNet, net, confirmation,
        progress, grant, and_self, sample, ← hwin]
    refine ⟨fun open_ => ?_, fun passed => ⟨fun phase => ?_, fun p g phase phaseP references => ?_⟩⟩
    · refine (Occurs.sampleEvent b cp cn).happens up isDue ?_
      rw [handed, if_neg (mt (settled_iff _ _).mp open_)]
    · refine (Occurs.sampleEvent b cp cn).happens up isDue ?_
      rw [handed, if_pos ((settled_iff _ _).mpr passed)]
      simp only [State.endPhase, phase, grant, State.crossOver, phaseValues_of_full passed.1]
      rw [State.modNet_modNet, State.modNet_uptime, show v.uptime = s.uptime by rw [hv]; rfl]
      exact fun _ => rfl
    · refine (Occurs.sampleEvent b cp cn).happens up isDue ?_
      rw [handed, if_pos ((settled_iff _ _).mpr passed)]
      have references : (v.bridge b).references = some g := by rw [bridge]; exact references
      simp only [State.endPhase, phase, grant, phaseP, State.bridge_modNet, references, phaseValues_of_full passed.1]
      exact v.complete_window n win b g p _

end Sys2Proof.Machine

/-! # The completion of a cycle and the attribution unit (R88, R95, R107, R112 to R124) -/

namespace Sys2Proof.Machine

/-! ## The records the attribution leaves -/

@[simp] theorem State.seg_attribute (s : State) (ms : List SegId) (dg : Bool) (gp gn : Nat) (x : SegId) :
    (s.attribute ms dg gp gn).seg x = (s.seg x).map fun g =>
      if ms.contains x then (s.attributionCase ms gp gn).write x (s.known x) s.uptime dg gp gn g else g :=
  State.seg_mapSegs ..

@[simp] theorem State.seg_answerSpots (s : State) (xs : List SegId) (o : CycleOutcome) (x : SegId) :
    (s.answerSpots xs o).seg x = (s.seg x).map fun g => if xs.contains x then g.answerSpot o else g :=
  State.seg_mapSegs ..

theorem Segment.answerSpot_eq (g : Segment) (o : CycleOutcome) :
    g.answerSpot o = { g with spot := none, lastSpot := some o, pending := g.pending ||| 0x02#8,
                              repeated := g.repeated || g.pending &&& 0x02#8 != 0#8 } := rfl

/-- Attribution reads the segments and the uptime only. -/
theorem State.seg_attribute_congr {s t : State} (segs : t.segs = s.segs) (uptime : t.uptime = s.uptime)
    (ms : List SegId) (dg : Bool) (gp gn : Nat) (x : SegId) :
    (t.attribute ms dg gp gn).seg x = (s.attribute ms dg gp gn).seg x := by
  have seg (y : SegId) : t.seg y = s.seg y := by rw [State.seg, segs, State.seg]
  have known : t.known = s.known := funext fun y => by rw [State.known, seg, State.known]
  have sum (f : Segment → Nat) : t.knownSum ms f = s.knownSum ms f := by simp only [State.knownSum, known, seg]
  have case_ : t.attributionCase ms gp gn = s.attributionCase ms gp gn := by
    unfold State.attributionCase
    rw [sum, sum, known]
  simp only [State.seg_attribute, case_, known, seg, uptime]

/-! ## The completion -/

theorem CycleOutcome.attributed_iff (o : CycleOutcome) : o.attributed = true ↔ o = .valid ∨ o = .degraded := by
  cases o <;> simp [CycleOutcome.attributed]

/-- A calculation gives its conductances exactly with the outcomes VALID and DEGRADED (R107). -/
theorem calculate_gp_isSome (g : References) (limit : Nat) (p n : PhaseValues) :
    (calculate g limit p n).gp.isSome = (calculate g limit p n).outcome.attributed := by
  unfold calculate
  dsimp only
  split
  · rfl
  · split
    · rfl
    · split
      · rfl
      · split
        · rfl
        · unfold calculateQuotients
          dsimp only
          split <;> rfl

section Complete

variable (s : State) (n : Net) (b : BridgeId) (g : References) (p v : PhaseValues)

/-- The segments after a completion: attribution for an attributed outcome, and the answers of the covered spots on what
it left (R88, R95). -/
theorem State.seg_complete (x : SegId) :
    (s.complete n b g p v).seg x =
      (if (calculate g s.timing.lowVoltage p v).outcome.attributed then
          (s.attribute n.members ((calculate g s.timing.lowVoltage p v).outcome == .degraded)
            ((calculate g s.timing.lowVoltage p v).gp.getD 0) ((calculate g s.timing.lowVoltage p v).gn.getD 0)).seg x
        else s.seg x).map
        fun h => if n.covered.contains x then h.answerSpot (calculate g s.timing.lowVoltage p v).outcome else h := by
  unfold State.complete
  dsimp only
  rw [State.seg_answerSpots]
  refine congrArg (Option.map _) ?_
  split
  · exact State.seg_attribute_congr rfl rfl _ _ _ _ x
  · rfl

theorem State.complete_nets :
    (s.complete n b g p v).nets = s.nets.map fun m =>
      if m.anchor = n.anchor then m.completed ((calculate g s.timing.lowVoltage p v).toResult s.uptime) else m := by
  unfold State.complete
  dsimp only
  split <;> rfl

theorem State.bridge_complete (c : BridgeId) :
    (s.complete n b g p v).bridge c = if b = c then (s.bridge b).openSwitches s.uptime else s.bridge c := by
  rw [← State.bridge_modBridge s b c (·.openSwitches s.uptime)]
  unfold State.complete
  dsimp only
  split <;> rfl

theorem State.complete_tables : (s.complete n b g p v).tables = s.tables := by
  unfold State.complete
  dsimp only
  refine (tables_mapSegs _ _).trans ?_
  split
  · exact tables_mapSegs _ _
  · rfl

end Complete

/-- Settles O47. -/
theorem completionRecordsAndAnswers : Obligations.CompletionRecordsAndAnswers := by
  unfold Obligations.CompletionRecordsAndAnswers
  rintro s t n b g p v r hr rfl
  have seg (x : SegId) : (s.complete n b g p v).seg x =
      (if r.outcome.attributed then
          (s.attribute n.members (r.outcome == .degraded) (r.gp.getD 0) (r.gn.getD 0)).seg x
        else s.seg x).map fun h => if n.covered.contains x then h.answerSpot r.outcome else h := by
    rw [hr]; exact s.seg_complete n b g p v x
  have attributed (gp : Nat) (some_ : r.gp = some gp) : r.outcome.attributed = true := by
    rw [hr, ← calculate_gp_isSome, ← hr, some_]; rfl
  have spared (x : SegId) (h : Segment) (held : s.seg x = some h)
      (spare : x ∉ n.members ∨ (r.outcome ≠ .valid ∧ r.outcome ≠ .degraded)) :
      (if r.outcome.attributed then
          (s.attribute n.members (r.outcome == .degraded) (r.gp.getD 0) (r.gn.getD 0)).seg x
        else s.seg x) = some h := by
    split
    · next written =>
      have outside : x ∉ n.members := spare.resolve_right fun ⟨notValid, notDegraded⟩ =>
        (r.outcome.attributed_iff.mp written).elim notValid notDegraded
      rw [State.seg_attribute, held]
      simp [outside]
    · exact held
  refine ⟨s.complete_tables n b g p v, (leaves_complete s n b g p v).port, fun c => ?_, ?_, fun x free => ?_,
    fun x h held uncovered spare => ?_, fun x h held covered spare => ?_, fun gp gn x hgp hgn member uncovered => ?_,
    fun gp gn x h hgp hgn member covered held => ?_⟩
  · rw [State.bridge_complete]
    exact if_congr eq_comm rfl rfl
  · rw [State.complete_nets, hr]
    rfl
  · rw [seg, State.seg_attribute, free, Option.map_none, ite_self, Option.map_none]
  · rw [seg, spared x h held spare, Option.map_some, if_neg (by simpa using uncovered)]
  · rw [seg, spared x h held spare, Option.map_some, if_pos (by simpa using covered), Segment.answerSpot_eq]
  · have kept : (fun h : Segment => if n.covered.contains x then h.answerSpot r.outcome else h) = id :=
      funext fun h => if_neg (by simpa using uncovered)
    rw [seg, if_pos (attributed gp hgp), hgp, hgn, kept, Option.map_id, id_eq, Option.getD_some, Option.getD_some]
  · rw [seg, if_pos (attributed gp hgp), hgp, hgn, Option.getD_some, Option.getD_some, held, Option.map_some,
      if_pos (by simpa using covered), Segment.answerSpot_eq]

/-! ## The case of an attribution -/

theorem Segment.known_iff (g : Segment) :
    g.known = true ↔ (g.quality = .direct ∨ g.quality = .derived) ∧ g.stale = false := by
  simp [Segment.known]

theorem State.known_iff (s : State) (x : SegId) : s.known x = true ↔
    ∃ g, s.seg x = some g ∧ (g.quality = .direct ∨ g.quality = .derived) ∧ g.stale = false := by
  simp only [State.known, Option.any_iff_exists, Segment.known_iff]

/-- The values a write of attribution leaves (R15, R121, R122). -/
theorem Segment.writeValues_eq (g : Segment) (now : Uptime) (dg : Bool) (q : Quality) (a b : Nat) :
    g.writeValues now dg q a b = ({ g with
      gp := a, gn := b, quality := q, attrTime := now, stale := false, degraded := dg,
      expiry := some (now + BitVec.ofNat 32 (g.validity * 1000)),
      lowMark := if q = .direct ∨ q = .derived then
          some (match g.lowMark with | none => resistance (max a b) | some m => min m (resistance (max a b)))
        else g.lowMark } : Segment).evaluate := by
  unfold Segment.writeValues
  dsimp only
  split <;> rfl

theorem absDiff_le_iff (a b t : Nat) : absDiff a b ≤ t ↔ a ≤ b + t ∧ b ≤ a + t := by
  unfold absDiff; omega

section Case

variable {s : State} {ms : List SegId} {gp gn : Nat}

/-- The unknown members of a net, in its order. -/
def State.unknown (s : State) (ms : List SegId) : List SegId := ms.filter fun x => !s.known x

theorem State.mem_unknown (x : SegId) : x ∈ s.unknown ms ↔ x ∈ ms ∧ ¬ s.known x = true := by
  simp [State.unknown]

theorem attributionCase_of_single (x : SegId) : s.attributionCase [x] gp gn = .direct := by
  rw [State.attributionCase]
  exact if_pos List.length_singleton

theorem attributionCase_of_all_known (two : 2 ≤ ms.length) (known : ∀ y ∈ ms, s.known y = true) :
    s.attributionCase ms gp gn =
      if absDiff gp (s.knownSum ms (·.gp)) ≤ tolerance gp ∧ absDiff gn (s.knownSum ms (·.gn)) ≤ tolerance gn then
        .confirmation
      else .inconsistent := by
  have none_ : (ms.filter fun x => !s.known x) = [] := by simpa [List.filter_eq_nil_iff] using known
  simp only [State.attributionCase, none_, show ms.length ≠ 1 by omega, if_false]

theorem attributionCase_of_one_unknown (two : 2 ≤ ms.length) (nodup : ms.Nodup) {u : SegId} (member : u ∈ ms)
    (others : ∀ y ∈ ms, s.known y = true ↔ y ≠ u) :
    s.attributionCase ms gp gn =
      if s.knownSum ms (·.gp) ≤ gp + tolerance gp ∧ s.knownSum ms (·.gn) ≤ gn + tolerance gn then
        .derived u (gp - s.knownSum ms (·.gp)) (gn - s.knownSum ms (·.gn))
      else .inconsistent := by
  have one : (ms.filter fun x => !s.known x) = [u] := by
    have same : (ms.filter fun x => !s.known x) = ms.filter (· == u) :=
      List.filter_congr fun y held => by
        rw [Bool.eq_iff_iff, Bool.not_eq_true', ← Bool.not_eq_true, others y held, not_not, beq_iff_eq]
    rw [same, List.filter_beq, List.count_eq_one_of_mem nodup member, List.replicate_one]
  simp only [State.attributionCase, one, show ms.length ≠ 1 by omega, if_false]

theorem attributionCase_of_two_unknown {u w : SegId} (memU : u ∈ ms) (memW : w ∈ ms) (distinct : u ≠ w)
    (unknownU : ¬ s.known u = true) (unknownW : ¬ s.known w = true) : s.attributionCase ms gp gn = .shared := by
  have inU : u ∈ ms.filter fun x => !s.known x := by simpa [memU] using unknownU
  have inW : w ∈ ms.filter fun x => !s.known x := by simpa [memW] using unknownW
  have several : ms.length ≠ 1 := by
    intro single
    obtain ⟨x, rfl⟩ := List.length_eq_one_iff.mp single
    exact distinct ((List.mem_singleton.mp memU).trans (List.mem_singleton.mp memW).symm)
  simp only [State.attributionCase, several, if_false]
  match unknowns : ms.filter fun x => !s.known x with
  | [] => rw [unknowns] at inU; cases inU
  | [x] =>
    rw [unknowns] at inU inW
    exact absurd ((List.mem_singleton.mp inU).trans (List.mem_singleton.mp inW).symm) distinct
  | _ :: _ :: _ => rfl

end Case

/-- Settles O52: the case chosen, and its write. -/
theorem attributionCases : Obligations.AttributionCases := by
  unfold Obligations.AttributionCases
  intro s ms dg gp gn sp sn tp tn known wr nodup defined hknown hsp hsn htp htn hwr
  have knows (x : SegId) : known x ↔ s.known x = true := (hknown x).trans (s.known_iff x).symm
  have writes (g : Segment) (q : Quality) (a b : Nat) : g.writeValues s.uptime dg q a b = wr g q a b :=
    (g.writeValues_eq s.uptime dg q a b).trans (hwr g q a b).symm
  have member (x : SegId) (g : Segment) (held : s.seg x = some g) (mem : x ∈ ms) :
      (s.attribute ms dg gp gn).seg x =
        some ((s.attributionCase ms gp gn).write x (s.known x) s.uptime dg gp gn g) := by
    rw [State.seg_attribute, held, Option.map_some, if_pos (by simpa using mem)]
  have sumP : s.knownSum ms (·.gp) = sp := hsp.symm
  have sumN : s.knownSum ms (·.gn) = sn := hsn.symm
  have tolP : tolerance gp = tp := htp.symm
  have tolN : tolerance gn = tn := htn.symm
  refine ⟨fun x outside => ?_, fun x g single held => ?_, fun u x g memU two others leP leN mem held => ?_,
    fun x g two all leP geP leN geN mem held => ?_, fun u w x g memU memW distinct unkU unkW mem held => ?_,
    fun x g two mem held apart w hw => ?_⟩
  · rw [State.seg_attribute]
    simp [outside]
  · rw [member x g held (by simp [single]), single, attributionCase_of_single, AttributionCase.write, writes]
  · rw [member x g held mem, attributionCase_of_one_unknown two nodup memU (fun y h => (knows y).symm.trans (others y h)),
      sumP, sumN, tolP, tolN, if_pos ⟨leP, leN⟩, AttributionCase.write, writes]
    split <;> rfl
  · rw [member x g held mem, attributionCase_of_all_known two (fun y h => (knows y).mp (all y h)), sumP, sumN, tolP, tolN,
      if_pos ⟨(absDiff_le_iff _ _ _).mpr ⟨leP, geP⟩, (absDiff_le_iff _ _ _).mpr ⟨leN, geN⟩⟩]
    rfl
  · rw [member x g held mem, attributionCase_of_two_unknown memU memW distinct (mt (knows u).mpr unkU)
      (mt (knows w).mpr unkW), AttributionCase.write, writes]
    exact ⟨fun unk => by rw [if_neg (mt (knows x).mpr unk)], fun kn => by rw [if_pos ((knows x).mp kn)]⟩
  · have inconsistent : s.attributionCase ms gp gn = .inconsistent := by
      rcases apart with ⟨u, memU, others, short⟩ | ⟨all, differs⟩
      · rw [attributionCase_of_one_unknown two nodup memU (fun y h => (knows y).symm.trans (others y h)), sumP, sumN,
          tolP, tolN, if_neg (by omega)]
      · rw [attributionCase_of_all_known two (fun y h => (knows y).mp (all y h)), sumP, sumN, tolP, tolN,
          if_neg (by rw [absDiff_le_iff, absDiff_le_iff]; omega)]
    rw [member x g held mem, inconsistent, AttributionCase.write, writes, ← hw]
    rfl

end Sys2Proof.Machine

/-! # The connected components (R41, R43) -/

namespace Sys2Proof.Machine

/-! ## Labels -/

/-- A vector of labels gives two segments one label exactly when a path of the relation joins them, and the label is the
lowest id of its class. -/
structure LabelsClasses (v : Vector SegId 16) (r : SegId → SegId → Prop) : Prop where
  same_iff : ∀ x y : SegId, v[x] = v[y] ↔ Relation.ReflTransGen r x y
  le_self : ∀ x : SegId, v[x] ≤ x
  idem : ∀ x : SegId, v[v[x]] = v[x]

/-- A relation with one more pair, in both directions. -/
def withPair (r : SegId → SegId → Prop) (a b x y : SegId) : Prop := r x y ∨ (x = a ∧ y = b) ∨ (x = b ∧ y = a)

@[simp] theorem mergeLabels_getElem (v : Vector SegId 16) (a b x : SegId) :
    (mergeLabels v a b)[x] = if v[x] = max v[a] v[b] then min v[a] v[b] else v[x] := by
  simp [mergeLabels]

/-- A merge gives one label to the two classes it joins, and keeps every other class apart. -/
theorem mergeLabels_eq_iff (v : Vector SegId 16) (a b x y : SegId) :
    (mergeLabels v a b)[x] = (mergeLabels v a b)[y] ↔
      v[x] = v[y] ∨ (v[x] = v[a] ∧ v[b] = v[y]) ∨ (v[x] = v[b] ∧ v[a] = v[y]) := by
  simp only [mergeLabels_getElem]
  generalize v[x] = vx
  generalize v[y] = vy
  generalize v[a] = va
  generalize v[b] = vb
  rcases le_total va vb with le | le
  · rw [max_eq_right le, min_eq_left le]
    split <;> split <;> grind
  · rw [max_eq_left le, min_eq_right le]
    split <;> split <;> grind

theorem LabelsClasses.merge {v : Vector SegId 16} {r : SegId → SegId → Prop} (h : LabelsClasses v r) (a b : SegId) :
    LabelsClasses (mergeLabels v a b) (withPair r a b) := by
  have lift {x y : SegId} (path : Relation.ReflTransGen r x y) : Relation.ReflTransGen (withPair r a b) x y :=
    Relation.ReflTransGen.mono (p := withPair r a b) (fun _ _ step => Or.inl step) _ _ path
  have pathOf {x y : SegId} (same : v[x] = v[y]) : Relation.ReflTransGen (withPair r a b) x y :=
    lift ((h.same_iff x y).mp same)
  refine ⟨fun x y => ⟨fun same => ?_, fun path => ?_⟩, fun x => ?_, fun x => ?_⟩
  · rcases (mergeLabels_eq_iff v a b x y).mp same with same | ⟨toA, fromB⟩ | ⟨toB, fromA⟩
    · exact pathOf same
    · exact ((pathOf toA).tail (.inr (.inl ⟨rfl, rfl⟩))).trans (pathOf fromB)
    · exact ((pathOf toB).tail (.inr (.inr ⟨rfl, rfl⟩))).trans (pathOf fromA)
  · induction path with
    | refl => rfl
    | @tail y z _ step ih =>
      refine ih.trans ((mergeLabels_eq_iff v a b y z).mpr ?_)
      rcases step with step | ⟨rfl, rfl⟩ | ⟨rfl, rfl⟩
      · exact .inl ((h.same_iff y z).mpr (.single step))
      · exact .inr (.inl ⟨rfl, rfl⟩)
      · exact .inr (.inr ⟨rfl, rfl⟩)
  · rw [mergeLabels_getElem]
    split
    · next top => exact (min_le_max.trans top.ge).trans (h.le_self x)
    · exact h.le_self x
  · have idemMin : v[min v[a] v[b]] = min v[a] v[b] := by
      rcases min_choice v[a] v[b] with least | least <;> simp only [least, h.idem]
    simp only [mergeLabels_getElem]
    split
    · rw [idemMin, ite_self]
    · next other => rw [h.idem x, if_neg other]

theorem labelsClasses_id : LabelsClasses (Vector.ofFn id) fun _ _ => False := by
  refine ⟨fun x y => ?_, fun x => ?_, fun x => ?_⟩
  · simp only [Fin.getElem_fin, Vector.getElem_ofFn, Fin.eta, id_eq]
    refine ⟨fun same => same ▸ .refl, fun path => ?_⟩
    cases path with
    | refl => rfl
    | tail _ step => exact step.elim
  · simp
  · simp

section Components

variable (s : State)

/-- The ends of a link that joins two segments (R41). -/
def State.joint (i : LinkId) : Option (SegId × SegId) :=
  ((s.link i).filter s.joins).map fun l => (l.endA, l.endB)

/-- Two segments are the ends of a joining link of a list. -/
def State.JoinedBy (is : List LinkId) (x y : SegId) : Prop := ∃ i ∈ is, s.joint i = some (x, y) ∨ s.joint i = some (y, x)

theorem State.joint_eq_some_iff (i : LinkId) (x y : SegId) : s.joint i = some (x, y) ↔
    ∃ l, s.link i = some l ∧ l.effective = .closed ∧ (s.seg l.endA).isSome ∧ (s.seg l.endB).isSome ∧
      l.endA = x ∧ l.endB = y := by
  simp only [State.joint, Option.map_eq_some_iff, Option.filter_eq_some_iff, State.joins, Bool.and_eq_true, beq_iff_eq,
    Prod.mk.injEq, and_assoc]

theorem State.joinedBy_allLinks : s.JoinedBy allLinks = s.Adjacent := by
  funext x y
  simp only [State.JoinedBy, mem_allLinks, true_and, State.Adjacent, State.joint_eq_some_iff, eq_iff_iff]
  grind

/-- The labels after the links of a list (R41). -/
def State.labelsBy (is : List LinkId) (v : Vector SegId 16) : Vector SegId 16 :=
  is.foldl (fun v i => match s.joint i with | some (a, b) => mergeLabels v a b | none => v) v

theorem State.labels_eq : s.labels = s.labelsBy allLinks (Vector.ofFn id) := by
  unfold State.labels State.labelsBy
  refine List.foldl_ext _ _ _ fun v i _ => ?_
  unfold State.joint
  cases s.link i with
  | none => rfl
  | some l => cases joins : s.joins l <;> simp [Option.filter, joins]

theorem State.labelsBy_classes (is : List LinkId) (v : Vector SegId 16) (r : SegId → SegId → Prop)
    (h : LabelsClasses v r) : LabelsClasses (s.labelsBy is v) fun x y => r x y ∨ s.JoinedBy is x y := by
  induction is generalizing v r with
  | nil => simpa [State.labelsBy, State.JoinedBy] using h
  | cons i is ih =>
    have cons_iff (x y : SegId) : s.JoinedBy (i :: is) x y ↔
        (s.joint i = some (x, y) ∨ s.joint i = some (y, x)) ∨ s.JoinedBy is x y := by
      simp [State.JoinedBy]
    cases joint : s.joint i with
    | none =>
      have skipped : s.labelsBy (i :: is) v = s.labelsBy is v := by simp only [State.labelsBy, List.foldl_cons, joint]
      rw [skipped]
      simpa [cons_iff, joint] using ih v r h
    | some p =>
      obtain ⟨a, b⟩ := p
      have first : s.labelsBy (i :: is) v = s.labelsBy is (mergeLabels v a b) := by
        simp only [State.labelsBy, List.foldl_cons, joint]
      have merged := ih _ _ (h.merge a b)
      rw [first]
      have relation : (fun x y => withPair r a b x y ∨ s.JoinedBy is x y) = fun x y => r x y ∨ s.JoinedBy (i :: is) x y := by
        funext x y
        simp only [withPair, cons_iff, joint, Option.some.injEq, Prod.mk.injEq, eq_iff_iff]
        grind
      rwa [relation] at merged

theorem State.labels_classes : LabelsClasses s.labels s.Adjacent := by
  have classes := s.labelsBy_classes allLinks _ _ labelsClasses_id
  rwa [← s.labels_eq, s.joinedBy_allLinks, show (fun x y => False ∨ s.Adjacent x y) = s.Adjacent by simp] at classes

/-! ## Components -/

theorem allSegs_pairwise : allSegs.Pairwise (· < ·) := by decide

theorem State.mem_component (v : Vector SegId 16) (a x : SegId) :
    x ∈ s.component v a ↔ (s.seg x).isSome = true ∧ v[x] = a := by
  simp [State.component, mem_allSegs]

theorem State.component_pairwise (v : Vector SegId 16) (a : SegId) : (s.component v a).Pairwise (· < ·) :=
  allSegs_pairwise.filter _

/-- The lowest ids of the components. -/
def State.anchors : List SegId := allSegs.filter fun a => (s.seg a).isSome && decide (s.labels[a] = a)

theorem State.mem_anchors (a : SegId) : a ∈ s.anchors ↔ (s.seg a).isSome = true ∧ s.labels[a] = a := by
  simp [State.anchors, mem_allSegs]

theorem State.components_eq : s.components = s.anchors.map (s.component s.labels) := rfl

theorem State.mem_components (c : List SegId) : c ∈ s.components ↔ ∃ a ∈ s.anchors, s.component s.labels a = c := by
  rw [s.components_eq, List.mem_map]

variable {s}

/-- A path leads from a segment to itself or to a DEFINED one. -/
theorem State.defined_of_path {x y : SegId} (path : Relation.ReflTransGen s.Adjacent x y) :
    x = y ∨ (s.seg y).isSome = true := by
  induction path with
  | refl => exact .inl rfl
  | tail _ step _ =>
    obtain ⟨i, l, -, -, endA, endB, ⟨-, rfl⟩ | ⟨rfl, -⟩⟩ := step
    exacts [.inr endB, .inr endA]

theorem State.label_mem_anchors {x : SegId} (defined : (s.seg x).isSome = true) : s.labels[x] ∈ s.anchors := by
  have classes := s.labels_classes
  refine (s.mem_anchors _).mpr ⟨?_, classes.idem x⟩
  rcases State.defined_of_path ((classes.same_iff x s.labels[x]).mp (classes.idem x).symm) with same | defined
  · rwa [← same]
  · exact defined

/-- Every DEFINED segment lies in a component (R41). -/
theorem State.exists_component {x : SegId} (defined : (s.seg x).isSome = true) : ∃ c ∈ s.components, x ∈ c :=
  ⟨_, (s.mem_components _).mpr ⟨_, State.label_mem_anchors defined, rfl⟩, (s.mem_component _ _ _).mpr ⟨defined, rfl⟩⟩

theorem State.defined_of_mem_component {c : List SegId} {x : SegId} (comp : c ∈ s.components) (mem : x ∈ c) :
    (s.seg x).isSome = true := by
  obtain ⟨a, -, rfl⟩ := (s.mem_components c).mp comp
  exact ((s.mem_component _ _ _).mp mem).1

/-- In an ascending list, a member that no other is below is the head. -/
theorem head?_eq_of_least {l : List SegId} (ascending : l.Pairwise (· < ·)) {a : SegId} (mem : a ∈ l)
    (least : ∀ x ∈ l, a ≤ x) : l.head? = some a := by
  cases l with
  | nil => cases mem
  | cons b l =>
    rcases List.mem_cons.mp mem with rfl | later
    · rfl
    · have below := (List.pairwise_cons.mp ascending).1 a later
      have above := least b List.mem_cons_self
      exact absurd below (not_lt.mpr above)

theorem State.component_head? {a : SegId} (anchor : a ∈ s.anchors) : (s.component s.labels a).head? = some a := by
  obtain ⟨defined, label⟩ := (s.mem_anchors a).mp anchor
  refine head?_eq_of_least (s.component_pairwise _ _) ((s.mem_component _ _ _).mpr ⟨defined, label⟩) fun x mem => ?_
  rw [← ((s.mem_component _ _ _).mp mem).2]
  exact s.labels_classes.le_self x

theorem State.components_sorted {c : List SegId} (comp : c ∈ s.components) : c ≠ [] ∧ c.Pairwise (· < ·) := by
  obtain ⟨a, anchor, rfl⟩ := (s.mem_components c).mp comp
  refine ⟨fun empty => ?_, s.component_pairwise _ _⟩
  have head := State.component_head? anchor
  rw [empty] at head
  cases head

variable (s) in
/-- The components are disjoint, and in ascending order of their lowest ids (R43). -/
theorem State.components_pairwise :
    s.components.Pairwise fun c d => (∀ x, x ∈ c → x ∉ d) ∧ ∀ x ∈ c.head?, ∀ y ∈ d.head?, x < y := by
  have ascending : s.anchors.Pairwise (· < ·) := allSegs_pairwise.filter _
  rw [s.components_eq, List.pairwise_map]
  refine ascending.imp_of_mem fun {a b} anchorA anchorB below => ⟨fun x inA inB => ?_, ?_⟩
  · have labelA := ((s.mem_component _ _ _).mp inA).2
    have labelB := ((s.mem_component _ _ _).mp inB).2
    exact absurd (labelA.symm.trans labelB) (ne_of_lt below)
  · rw [State.component_head? anchorA, State.component_head? anchorB]
    rintro x ⟨⟩ y ⟨⟩
    exact below

/-- Two segments lie in one component exactly when both are DEFINED and a path joins them (R41). -/
theorem State.same_component_iff (x y : SegId) : (∃ c ∈ s.components, x ∈ c ∧ y ∈ c) ↔
    (s.seg x).isSome ∧ (s.seg y).isSome ∧ Relation.ReflTransGen s.Adjacent x y := by
  have classes := s.labels_classes
  refine ⟨fun ⟨c, comp, inX, inY⟩ => ?_, fun ⟨definedX, definedY, path⟩ => ?_⟩
  · obtain ⟨a, -, rfl⟩ := (s.mem_components c).mp comp
    obtain ⟨definedX, labelX⟩ := (s.mem_component _ _ _).mp inX
    obtain ⟨definedY, labelY⟩ := (s.mem_component _ _ _).mp inY
    exact ⟨definedX, definedY, (classes.same_iff x y).mp (labelX.trans labelY.symm)⟩
  · refine ⟨_, (s.mem_components _).mpr ⟨_, State.label_mem_anchors definedX, rfl⟩, ?_, ?_⟩
    · exact (s.mem_component _ _ _).mpr ⟨definedX, rfl⟩
    · exact (s.mem_component _ _ _).mpr ⟨definedY, ((classes.same_iff x y).mpr path).symm⟩

end Components

/-- Settles O53. -/
theorem componentsArePaths : Obligations.ComponentsArePaths := by
  unfold Obligations.ComponentsArePaths
  exact fun s => ⟨State.same_component_iff, fun _ => State.components_sorted, s.components_pairwise⟩

end Sys2Proof.Machine

/-! # What a recompute makes of the nets and the bridges (R42 to R51, R57, R58, R91, R92) -/

namespace Sys2Proof.Machine

/-! ## The bridge commands of a recompute -/

section Bridges

variable (b : Bridge) (now : Uptime)

theorem Bridge.openSwitches_parked_iff : (b.openSwitches now).state = .parked ↔ b.state = .parked := by
  unfold Bridge.openSwitches
  cases h : b.state <;> simp [Bridge.enterOpening, Bridge.enter, h]

theorem Bridge.openSwitches_faulted_iff : (b.openSwitches now).state = .faulted ↔ b.state = .faulted := by
  unfold Bridge.openSwitches
  cases h : b.state <;> simp [Bridge.enterOpening, Bridge.enter, h]

theorem Bridge.openSwitches_of_parked (parked : b.state = .parked) : b.openSwitches now = b := by
  rw [Bridge.openSwitches, parked]

theorem Bridge.openSwitches_openSwitches : (b.openSwitches now).openSwitches now = b.openSwitches now := by
  unfold Bridge.openSwitches
  cases h : b.state <;> simp [Bridge.enterOpening, Bridge.enter, h]

theorem Bridge.openSwitches_cause : (b.openSwitches now).cause = b.cause := by rw [b.openSwitches_kept now]

theorem Bridge.openSwitches_attached : (b.openSwitches now).attached = b.attached := by rw [b.openSwitches_kept now]

theorem Bridge.closeP_faulted_iff : (b.closeP now).state = .faulted ↔ b.state = .faulted := by
  unfold Bridge.closeP
  split
  · next parked => simp [Bridge.enterClosing, Bridge.enter, parked]
  · rfl

end Bridges

/-! ## The grants that are commanded to open -/

section Release

variable (s : State)

theorem State.bridge_release (grant : Option BridgeId) (b : BridgeId) :
    (s.release grant).bridge b = if grant = some b then (s.bridge b).openSwitches s.uptime else s.bridge b := by
  cases grant with
  | none => rfl
  | some c =>
    rw [State.release, State.bridge_modBridge]
    by_cases same : c = b
    · subst same; rw [if_pos rfl, if_pos rfl]
    · rw [if_neg same, if_neg (by simpa using same)]

theorem State.release_but_bridges (grant : Option BridgeId) :
    s.release grant = { s with bridges := (s.release grant).bridges } := by
  cases grant <;> rfl

theorem State.releaseAll_but_bridges (grants : List (Option BridgeId)) :
    s.releaseAll grants = { s with bridges := (s.releaseAll grants).bridges } := by
  unfold State.releaseAll
  induction grants generalizing s with
  | nil => rfl
  | cons g gs ih =>
    rw [List.foldl_cons, ih]
    generalize (gs.foldl State.release (s.release g)).bridges = bs
    rw [s.release_but_bridges g]

theorem State.bridge_releaseAll (grants : List (Option BridgeId)) (b : BridgeId) :
    (s.releaseAll grants).bridge b = if some b ∈ grants then (s.bridge b).openSwitches s.uptime else s.bridge b := by
  unfold State.releaseAll
  induction grants generalizing s with
  | nil => rfl
  | cons g gs ih =>
    have uptime : (s.release g).uptime = s.uptime := by rw [s.release_but_bridges g]
    rw [List.foldl_cons, ih, State.bridge_release, uptime]
    by_cases first : g = some b <;> by_cases later : some b ∈ gs <;>
      simp [first, later, Bridge.openSwitches_openSwitches, eq_comm]

end Release

/-! ## The supervision a recompute decides -/

section Supervise

variable (s : State) (ms : List SegId) (bs : List BridgeId)

theorem Source.isExternal_iff (src : Source) : src.isExternal = true ↔ src ≠ .own := by
  cases src <;> simp [Source.isExternal]

/-- The first matching condition of R48. -/
theorem State.supervise_eq {ext stuck eligible : Prop} [Decidable ext] [Decidable stuck] [Decidable eligible]
    (hext : ext ↔ ∃ x ∈ ms, ∃ g, s.seg x = some g ∧ g.source ≠ .own)
    (hstuck : stuck ↔ ∃ b ∈ bs, (s.bridge b).state = .faulted ∧ (s.bridge b).cause = some .stuck)
    (heligible : eligible ↔ ∃ b ∈ bs, (s.bridge b).state ≠ .faulted) :
    s.supervise ms bs =
      if ext then (.external, none) else if stuck then (.none, some .stuckBridge) else if eligible then (.own, none)
      else if bs ≠ [] then (.none, some .allFaulted) else (.none, some .noBridge) := by
  have ext_iff : (ms.any fun x => (s.seg x).any fun g => g.source.isExternal) = true ↔ ext := by
    rw [hext]; simp [Option.any_iff_exists, Source.isExternal_iff]
  have stuck_iff : (bs.any fun b => (s.bridge b).state == .faulted && (s.bridge b).cause == some .stuck) = true ↔
      stuck := by
    rw [hstuck]; simp
  have eligible_iff : (bs.any fun b => (s.bridge b).state != .faulted) = true ↔ eligible := by
    rw [heligible]; simp
  simp only [State.supervise, ext_iff, stuck_iff, eligible_iff]

/-- An UNMEASURABLE net has a reason, an OWN or EXTERNAL one none (R48, R49). -/
theorem State.supervise_reason : (s.supervise ms bs).2.isSome ↔ (s.supervise ms bs).1 = .none := by
  unfold State.supervise
  split
  · simp
  · split
    · simp
    · split
      · simp
      · split <;> simp

variable {s ms bs}

/-- An OWN net has a bridge that is not FAULTED (R48). -/
theorem State.supervise_own (own : (s.supervise ms bs).1 = .own) : ∃ b ∈ bs, (s.bridge b).state ≠ .faulted := by
  unfold State.supervise at own
  split at own
  · cases own
  · split at own
    · cases own
    · split at own
      · next eligible => simpa using eligible
      · split at own <;> cases own

end Supervise

/-! ## The record of a component -/

/-- A record that enters the state of a decided supervision, no rest, quiet period or cycle of its own left. -/
theorem Net.enterBy_eq_placed (m : Net) (bs : List BridgeId) (d : Supervision × Option Reason) (now : Uptime) (q : Nat)
    (reason : d.2.isSome ↔ d.1 = .none) :
    ({ m with bridges := bs } : Net).enterBy d now q = m.placed bs d.1 d.2 now q := by
  obtain ⟨sup, r⟩ := d
  cases sup <;> cases r <;> simp_all [Net.enterBy, Net.placed, Net.enterQuiet, Net.enterExternal,
    Net.enterUnmeasurable, Net.idle, Net.dropCycle]

/-- What a recompute makes of one component: a new record; a carried one undisturbed; one that loses its cycle or its rest
with an ending; or one that leaves EXTERNAL or UNMEASURABLE (R43 to R45, R91, R92). -/
inductive State.Derives (s : State) (c : List SegId) : Derived → Prop where
  | fresh (new : ∀ m ∈ s.nets, m.members ≠ c) :
      Derives s c
        { net := (Net.blank (c.headD 0) c (s.bridgeSet c)).placed (s.bridgeSet c) (s.supervise c (s.bridgeSet c)).1
            (s.supervise c (s.bridgeSet c)).2 s.uptime s.timing.quiet,
          released := none, faultSpots := [], fresh := true }
  | kept (m : Net) (held : m ∈ s.nets) (members : m.members = c) (was : m.supervision = .own)
      (own : (s.supervise c (s.bridgeSet c)).1 = .own)
      (usable : ∀ b, m.grant = some b → b ∈ s.bridgeSet c ∧ (s.bridge b).state ≠ .faulted) :
      Derives s c
        { net := { m with bridges := s.bridgeSet c }, released := none, faultSpots := [], fresh := false }
  | lost (m : Net) (held : m ∈ s.nets) (members : m.members = c) (was : m.supervision = .own) (o : CycleOutcome)
      (ending : o = .abandoned ∨ (o = .bridgeFault ∧ (s.supervise c (s.bridgeSet c)).1 ≠ .external ∧
        ∃ b, m.grant = some b ∧ (s.bridge b).state = .faulted))
      (interrupted : (s.supervise c (s.bridgeSet c)).1 = .own → ∃ b, m.grant = some b ∧
        ((b ∉ s.bridgeSet c ∧ o = .abandoned) ∨ (b ∈ s.bridgeSet c ∧ (s.bridge b).state = .faulted ∧ o = .bridgeFault)))
      (unmeasurable : (s.supervise c (s.bridgeSet c)).1 = .none →
        (o = .bridgeFault ↔ ∃ b, m.grant = some b ∧ (s.bridge b).state = .faulted)) :
      Derives s c
        { net := { m.placed (s.bridgeSet c) (s.supervise c (s.bridgeSet c)).1 (s.supervise c (s.bridgeSet c)).2 s.uptime
              s.timing.quiet with
            lastResult := if m.inProgress then some (endingResult o s.uptime) else m.lastResult },
          released := m.grant, faultSpots := if m.inProgress ∧ o = .bridgeFault then m.covered else [],
          fresh := false }
  | changed (m : Net) (held : m ∈ s.nets) (members : m.members = c) (was : m.supervision ≠ .own) :
      Derives s c
        { net := m.placed (s.bridgeSet c) (s.supervise c (s.bridgeSet c)).1 (s.supervise c (s.bridgeSet c)).2 s.uptime
            s.timing.quiet,
          released := none, faultSpots := [], fresh := false }

theorem Net.lose_eq (m : Net) (bs : List BridgeId) (o : CycleOutcome) (d : Supervision × Option Reason) (now : Uptime)
    (q : Nat) (reason : d.2.isSome ↔ d.1 = .none) :
    ({ m with bridges := bs } : Net).lose o d now q =
      { net := { m.placed bs d.1 d.2 now q with
          lastResult := if m.inProgress then some (endingResult o now) else m.lastResult },
        released := m.grant, faultSpots := if m.inProgress ∧ o = .bridgeFault then m.covered else [], fresh := false } := by
  have net : (({ m with bridges := bs } : Net).endCycle o now).enterBy d now q =
      { m.placed bs d.1 d.2 now q with
          lastResult := if m.inProgress then some (endingResult o now) else m.lastResult } := by
    have ended : (({ m with bridges := bs } : Net).endCycle o now) =
        { ({ m.dropCycle with lastResult := if m.inProgress then some (endingResult o now) else m.lastResult } : Net) with
          bridges := bs } := by
      cases progress : m.inProgress <;>
        simp [Net.endCycle, Net.dropCycle, progress, show (({ m with bridges := bs } : Net).inProgress) = m.inProgress from rfl]
    rw [ended, Net.enterBy_eq_placed _ _ _ _ _ reason]
    rfl
  rw [Net.lose, net]
  rfl

/-- Every component's derivation is one of the four (R43 to R45). -/
theorem State.derive_derives (s : State) (c : List SegId) : s.Derives c (s.derive c) := by
  have reason := s.supervise_reason c (s.bridgeSet c)
  unfold State.derive
  dsimp only
  split
  · next m found =>
    have members : m.members = c := by simpa using List.find?_some found
    have held : m ∈ s.nets := List.mem_of_find?_eq_some found
    have lost (o : CycleOutcome) := Net.lose_eq m (s.bridgeSet c) o (s.supervise c (s.bridgeSet c)) s.uptime s.timing.quiet
      reason
    unfold Net.carry
    dsimp only
    split
    · next was own =>
      split
      · next grant =>
        exact .kept m held members was own fun b h => by rw [show m.grant = none from grant] at h; cases h
      · next b grant =>
        have grant : m.grant = some b := grant
        split
        · next outside =>
          have outside : b ∉ s.bridgeSet c := by simpa using outside
          rw [lost]
          exact .lost m held members was .abandoned (.inl rfl) (fun _ => ⟨b, grant, .inl ⟨outside, rfl⟩⟩)
            fun none_ => by rw [own] at none_; cases none_
        · next inside =>
          have inside : b ∈ s.bridgeSet c := by simpa using inside
          split
          · next faulted =>
            have faulted : (s.bridge b).state = .faulted := by simpa using faulted
            rw [lost]
            exact .lost m held members was .bridgeFault (.inr ⟨rfl, by rw [own]; decide, b, grant, faulted⟩)
              (fun _ => ⟨b, grant, .inr ⟨inside, faulted, rfl⟩⟩) fun none_ => by rw [own] at none_; cases none_
          · next working =>
            have working : (s.bridge b).state ≠ .faulted := by simpa using working
            refine .kept m held members was own fun b' h => ?_
            rw [grant] at h
            obtain rfl := Option.some.inj h
            exact ⟨inside, working⟩
    · next was external =>
      rw [lost]
      exact .lost m held members was .abandoned (.inl rfl) (fun own => by rw [external] at own; cases own)
        fun none_ => by rw [external] at none_; cases none_
    · next was none_ =>
      rw [lost]
      have faulted_iff : (m.grant.any fun b => (s.bridge b).state == .faulted) = true ↔
          ∃ b, m.grant = some b ∧ (s.bridge b).state = .faulted := by
        simp [Option.any_iff_exists]
      refine .lost m held members was _ ?_ (fun own => by rw [none_] at own; cases own) fun _ => ?_
      · split
        · next faulted => exact .inr ⟨rfl, by rw [none_]; decide, faulted_iff.mp faulted⟩
        · exact .inl rfl
      · rw [← faulted_iff]
        split <;> simp_all
    · next was =>
      rw [Net.enterBy_eq_placed _ _ _ _ _ reason]
      exact .changed m held members (by rw [show m.supervision = .external from was]; decide)
    · next was =>
      rw [Net.enterBy_eq_placed _ _ _ _ _ reason]
      exact .changed m held members (by rw [show m.supervision = .none from was]; decide)
  · next missing =>
    have placed := Net.enterBy_eq_placed (Net.blank (c.headD 0) c (s.bridgeSet c)) (s.bridgeSet c) _ s.uptime
      s.timing.quiet reason
    rw [show (Net.blank (c.headD 0) c (s.bridgeSet c)).enterBy (s.supervise c (s.bridgeSet c)) s.uptime s.timing.quiet =
      _ from placed]
    refine .fresh fun m held members => ?_
    have differs := List.find?_eq_none.mp missing m held
    simp [members] at differs

end Sys2Proof.Machine

/-! # The nets and the bridges after a recompute (R43 to R45, R51, R57, R58) -/

namespace Sys2Proof.Machine

/-! ## The test of one net -/

section Test

variable (s : State)

/-- The bridge that the test of a waiting net grants (R51, R57, R58). -/
def State.testGrant (n : Net) : Option BridgeId := if s.waits n then s.nextBridge n else none

/-- The record of a net after its test. -/
def State.tested (n : Net) : Net :=
  match s.testGrant n with
  | some b => n.granted b (n.members.filter s.spotPending) s.uptime
  | none => n

theorem State.testGrant_eq_some_iff (n : Net) (b : BridgeId) :
    s.testGrant n = some b ↔ s.WaitIsOver n n.bridges ∧ s.Grantee n b := by
  rw [← s.waits_iff, ← s.nextBridge_eq_some_iff, State.testGrant]
  split <;> simp_all

theorem State.tested_anchor (n : Net) : (s.tested n).anchor = n.anchor := by unfold State.tested; split <;> rfl

theorem State.tested_members (n : Net) : (s.tested n).members = n.members := by unfold State.tested; split <;> rfl

theorem State.tested_bridges (n : Net) : (s.tested n).bridges = n.bridges := by unfold State.tested; split <;> rfl

theorem State.tested_supervision (n : Net) : (s.tested n).supervision = n.supervision := by
  unfold State.tested; split <;> rfl

variable {s}

theorem State.tested_of_none {n : Net} (none_ : s.testGrant n = none) : s.tested n = n := by rw [State.tested, none_]

theorem State.tested_of_grant {n : Net} {b : BridgeId} (grant : s.testGrant n = some b) :
    s.tested n = n.granted b (n.members.filter s.spotPending) s.uptime := by rw [State.tested, grant]

theorem State.mem_bridges_of_testGrant {n : Net} {b : BridgeId} (grant : s.testGrant n = some b) : b ∈ n.bridges :=
  ((s.testGrant_eq_some_iff n b).mp grant).2.1

theorem State.parked_of_testGrant {n : Net} {b : BridgeId} (grant : s.testGrant n = some b) :
    (s.bridge b).state = .parked :=
  ((s.testGrant_eq_some_iff n b).mp grant).2.2.1

/-- The test reads the uptime, and which bridges of the set are PARKED or FAULTED. -/
theorem State.testGrant_congr {t : State} {n : Net} (uptime : t.uptime = s.uptime)
    (parked : ∀ b ∈ n.bridges, (t.bridge b).state = .parked ↔ (s.bridge b).state = .parked)
    (faulted : ∀ b ∈ n.bridges, (t.bridge b).state = .faulted ↔ (s.bridge b).state = .faulted) :
    t.testGrant n = s.testGrant n := by
  refine Option.ext fun b => ?_
  rw [t.testGrant_eq_some_iff, s.testGrant_eq_some_iff]
  refine and_congr ?_ ?_
  · unfold State.WaitIsOver
    rw [uptime]
    refine or_congr (and_congr_right fun _ => and_congr_right fun _ => ?_) (and_congr_right fun _ => and_congr_right fun _ => ?_)
    · exact forall₂_congr fun c mem => or_congr (parked c mem) (faulted c mem)
    · exact exists_congr fun c => and_congr_right fun mem => parked c mem
  · unfold State.Grantee
    refine and_congr_right fun mem => and_congr (parked b mem) ?_
    exact forall₂_congr fun c mem => by rw [parked c mem]

/-- A net that has just been placed in the state of its supervision does not wait yet (R50, R51). -/
theorem State.testGrant_of_placed {n m : Net} {bs : List BridgeId} {sup : Supervision} {r : Option Reason} {q : Nat}
    (state : n.state = (m.placed bs sup r s.uptime q).state) (quiet : n.quiet = (m.placed bs sup r s.uptime q).quiet) :
    s.testGrant n = none := by
  rw [Option.eq_none_iff_forall_not_mem]
  intro b grant
  obtain ⟨waits, -⟩ := (s.testGrant_eq_some_iff n b).mp grant
  cases sup with
  | own =>
    rcases waits with ⟨-, ⟨p, held, ended⟩, -⟩ | ⟨rest, -⟩
    · rw [quiet] at held
      obtain rfl := Option.some.inj held
      rcases ended with expired | passed
      · cases expired
      · simp at passed
    · rw [state] at rest; cases rest
  | external | none =>
    rcases waits with ⟨quiet, -⟩ | ⟨rest, -⟩
    · rw [state] at quiet; cases quiet
    · rw [state] at rest; cases rest

theorem State.startCycle_of_none {a : SegId} {n : Net} (net : s.netAt a = some n)
    (unique : ∀ m ∈ s.nets, m.anchor = a → m = n) (waits : s.waits n = true) (none_ : s.nextBridge n = none) :
    s.startCycle a = s := by
  have notRest : n.state ≠ .rest := by
    intro rest
    rcases (s.waits_iff n).mp waits with ⟨quiet, -⟩ | ⟨-, -, parked⟩
    · rw [rest] at quiet; cases quiet
    · have := (s.nextBridge_isSome_iff n).mpr parked
      rw [none_] at this
      cases this
  simp only [State.startCycle, net, none_]
  have same : (s.modNet a fun m => if m.state = .rest then { m with startPending := true, spacing := none } else m) =
      s.modNet a id :=
    State.modNet_congr fun m held at_ => if_neg (by rw [unique m held at_]; exact notRest)
  rw [same]
  simp [State.modNet]

theorem State.nets_eta (s : State) : s = { s with nets := s.nets, bridges := s.bridges } := rfl

/-- The test of the one net with an anchor: its record, and CLOSE P for the bridge granted (R51, R57, R58, R81). -/
theorem State.testWaiting_eq {a : SegId} {n : Net} (net : s.netAt a = some n)
    (unique : ∀ m ∈ s.nets, m.anchor = a → m = n) :
    s.testWaiting a = { s with
        nets := s.nets.map fun m => if m.anchor = a then s.tested m else m, bridges := (s.testWaiting a).bridges } ∧
      ∀ b, (s.testWaiting a).bridge b = if s.testGrant n = some b then (s.bridge b).closeP s.uptime else s.bridge b := by
  have unchanged (none_ : s.testGrant n = none) :
      s = { s with nets := s.nets.map fun m => if m.anchor = a then s.tested m else m } := by
    have same : (s.nets.map fun m => if m.anchor = a then s.tested m else m) = s.nets := by
      refine (List.map_congr_left fun m held => ?_).trans (List.map_id s.nets)
      split
      · next at_ => rw [unique m held at_, State.tested_of_none none_]; rfl
      · rfl
    rw [same]
  rw [State.testWaiting_of_net net]
  by_cases waits : s.waits n = true
  · rw [if_pos waits]
    cases next : s.nextBridge n with
    | none =>
      have none_ : s.testGrant n = none := by rw [State.testGrant, if_pos waits, next]
      rw [State.startCycle_of_none net unique waits next, none_]
      exact ⟨unchanged none_, fun b => by rw [if_neg (by simp)]⟩
    | some c =>
      have grant : s.testGrant n = some c := by rw [State.testGrant, if_pos waits, next]
      have started : s.startCycle a =
          (s.modNet a fun m => m.granted c (m.members.filter s.spotPending) s.uptime).modBridge c (·.closeP s.uptime) := by
        simp only [State.startCycle, net, next]
      rw [started, grant]
      refine ⟨?_, fun b => ?_⟩
      · refine congrArg (fun ns => ({ s with nets := ns, bridges := s.bridges.set c ((s.bridges[c]).closeP s.uptime) } : State)) ?_
        refine List.map_congr_left fun m held => ?_
        split
        · next at_ => rw [unique m held at_, State.tested_of_grant grant]
        · rfl
      · rw [State.bridge_modBridge, State.bridge_modNet]
        by_cases same : c = b
        · subst same; rw [if_pos rfl, if_pos rfl]
        · rw [if_neg same, if_neg (by simpa using same)]; rfl
  · have none_ : s.testGrant n = none := by rw [State.testGrant, if_neg waits]
    rw [if_neg waits, none_]
    exact ⟨unchanged none_, fun b => by rw [if_neg (by simp)]⟩

theorem State.testWaiting_of_no_net {a : SegId} (none_ : ∀ m ∈ s.nets, m.anchor ≠ a) : s.testWaiting a = s := by
  have missing : s.netAt a = none := List.find?_eq_none.mpr fun m held => by simpa using none_ m held
  rw [State.testWaiting, missing]

end Test

/-! ## The tests of all carried nets -/

/-- The nets of a state are told apart by their anchors, and no bridge is in the sets of two. -/
structure State.NetsDistinct (s : State) : Prop where
  anchor : ∀ m ∈ s.nets, ∀ n ∈ s.nets, m.anchor = n.anchor → m = n
  bridges : ∀ m ∈ s.nets, ∀ n ∈ s.nets, ∀ b, b ∈ m.bridges → b ∈ n.bridges → m = n

/-- Tests of different anchors do not meet: every net of the list is tested as it stood, and a bridge is told to close
exactly where one of them grants it (R51, R58). -/
theorem State.foldl_testWaiting {s : State} (distinct : s.NetsDistinct) (as : List SegId) (nodup : as.Nodup) :
    as.foldl State.testWaiting s = { s with
        nets := s.nets.map fun n => if n.anchor ∈ as then s.tested n else n,
        bridges := (as.foldl State.testWaiting s).bridges } ∧
      ∀ b, (as.foldl State.testWaiting s).bridge b =
        if ∃ n ∈ s.nets, n.anchor ∈ as ∧ s.testGrant n = some b then (s.bridge b).closeP s.uptime else s.bridge b := by
  induction as using List.reverseRecOn with
  | nil => simp
  | append_singleton as a ih =>
    obtain ⟨nodup, -, notIn⟩ := List.nodup_append.mp nodup
    have notIn : a ∉ as := fun mem => notIn a mem a List.mem_cons_self rfl
    obtain ⟨fields, closed⟩ := ih nodup
    rw [List.foldl_append, List.foldl_cons, List.foldl_nil]
    revert fields closed
    generalize as.foldl State.testWaiting s = u
    intro fields closed
    have nets : u.nets = s.nets.map fun n => if n.anchor ∈ as then s.tested n else n := by rw [fields]
    have uptime : u.uptime = s.uptime := by rw [fields]
    have anchor_ite (n : Net) : (if n.anchor ∈ as then s.tested n else n).anchor = n.anchor := by
      split
      · exact s.tested_anchor n
      · rfl
    by_cases held : ∃ n ∈ s.nets, n.anchor = a
    · obtain ⟨n, held, rfl⟩ := held
      have unique : ∀ m ∈ u.nets, m.anchor = n.anchor → m = n := by
        intro m mem at_
        rw [nets] at mem
        obtain ⟨k, kHeld, rfl⟩ := List.mem_map.mp mem
        rw [anchor_ite] at at_
        obtain rfl := distinct.anchor k kHeld n held at_
        rw [if_neg notIn]
      have isNet : n ∈ u.nets := by
        rw [nets]
        exact List.mem_map.mpr ⟨n, held, if_neg notIn⟩
      have net : u.netAt n.anchor = some n := by
        cases found : u.netAt n.anchor with
        | none =>
          have := List.find?_eq_none.mp found n isNet
          simp at this
        | some m => exact congrArg some (unique m (List.mem_of_find?_eq_some found) (by simpa using List.find?_some found))
      have untouched (b : BridgeId) (mem : b ∈ n.bridges) : u.bridge b = s.bridge b := by
        rw [closed, if_neg]
        rintro ⟨m, mHeld, mIn, grant⟩
        obtain rfl := distinct.bridges m mHeld n held b (State.mem_bridges_of_testGrant grant) mem
        exact notIn mIn
      have grant_eq : u.testGrant n = s.testGrant n :=
        State.testGrant_congr uptime (fun b mem => by rw [untouched b mem]) fun b mem => by rw [untouched b mem]
      have pending : u.spotPending = s.spotPending := by rw [fields]; rfl
      have tested_eq : u.tested n = s.tested n := by rw [State.tested, State.tested, grant_eq, pending, uptime]
      obtain ⟨fieldsTest, closedTest⟩ := State.testWaiting_eq net unique
      refine ⟨?_, fun b => ?_⟩
      · rw [fieldsTest]
        have netsTest : (u.nets.map fun m => if m.anchor = n.anchor then u.tested m else m) =
            s.nets.map fun k => if k.anchor ∈ as ++ [n.anchor] then s.tested k else k := by
          rw [nets, List.map_map]
          refine List.map_congr_left fun k kHeld => ?_
          simp only [Function.comp_apply, anchor_ite, List.mem_append, List.mem_singleton]
          by_cases same : k.anchor = n.anchor
          · obtain rfl := distinct.anchor k kHeld n held same
            simp [notIn, tested_eq]
          · simp [same]
        rw [netsTest]
        generalize (u.testWaiting n.anchor).bridges = bs
        rw [fields]
      · rw [closedTest, grant_eq, uptime]
        split
        · next grant =>
          rw [untouched b (State.mem_bridges_of_testGrant grant), if_pos ⟨n, held, by simp, grant⟩]
        · next other =>
          rw [closed]
          refine if_congr (exists_congr fun k => and_congr_right fun kHeld => ?_) rfl rfl
          simp only [List.mem_append, List.mem_singleton, or_and_right]
          refine ⟨.inl, fun either => either.resolve_right fun ⟨at_, grant⟩ => ?_⟩
          obtain rfl := distinct.anchor k kHeld n held at_
          exact other grant
    · have noNet : ∀ m ∈ u.nets, m.anchor ≠ a := by
        intro m mem at_
        rw [nets] at mem
        obtain ⟨k, kHeld, rfl⟩ := List.mem_map.mp mem
        rw [anchor_ite] at at_
        exact held ⟨k, kHeld, at_⟩
      have member_iff (k : Net) (kHeld : k ∈ s.nets) : k.anchor ∈ as ++ [a] ↔ k.anchor ∈ as := by
        simp only [List.mem_append, List.mem_singleton, or_iff_left_iff_imp]
        exact fun at_ => (held ⟨k, kHeld, at_⟩).elim
      rw [State.testWaiting_of_no_net noNet]
      refine ⟨?_, fun b => ?_⟩
      · have netsSame : (s.nets.map fun k => if k.anchor ∈ as ++ [a] then s.tested k else k) =
            s.nets.map fun k => if k.anchor ∈ as then s.tested k else k :=
          List.map_congr_left fun k kHeld => if_congr (member_iff k kHeld) rfl rfl
        rw [netsSame]
        exact fields
      · rw [closed]
        exact if_congr (exists_congr fun k => and_congr_right fun kHeld => and_congr_left fun _ => (member_iff k kHeld).symm)
          rfl rfl

end Sys2Proof.Machine

/-! # A recompute, record by record (R42 to R51, R53, R54, R57, R58, R91, R92) -/

namespace Sys2Proof.Machine

/-! ## The derived records -/

section Derives

variable {s : State} {c : List SegId} {d : Derived}

theorem State.Derives.members (h : s.Derives c d) : d.net.members = c := by
  cases h with
  | fresh => rfl
  | kept m held members => exact members
  | lost m held members => exact members
  | changed m held members => exact members

theorem State.Derives.bridges (h : s.Derives c d) : d.net.bridges = s.bridgeSet c := by
  cases h <;> rfl

/-- The fields of a net that a decided supervision determines, as a recompute derives them, are sound (R40, R58). -/
theorem Net.placed_sound (m : Net) (bs : List BridgeId) (sup : Supervision) (r : Option Reason) (now : Uptime) (q : Nat)
    (reason : r.isSome ↔ sup = .none) : (m.placed bs sup r now q).Sound := by
  cases sup <;> simp_all [Net.Sound, Net.placed]

theorem Net.Sound.own_reason {n : Net} (sound : n.Sound) (own : n.supervision = .own) : n.reason = none := by
  obtain ⟨-, none_, -, reason, -⟩ := sound
  rw [← Option.not_isSome_iff_eq_none, reason, ← none_, own]
  decide

theorem State.supervise_own_reason {bs : List BridgeId} (own : (s.supervise c bs).1 = .own) :
    (s.supervise c bs).2 = none := by
  rw [← Option.not_isSome_iff_eq_none, s.supervise_reason c bs, own]
  decide

theorem State.Derives.supervision (h : s.Derives c d) (sound : s.NetsSound) :
    (d.net.supervision, d.net.reason) = s.supervise c (s.bridgeSet c) := by
  cases h with
  | fresh | lost | changed => rfl
  | kept m held members was own =>
    exact Prod.ext (was.trans own.symm) (((sound m held).own_reason was).trans (State.supervise_own_reason own).symm)

theorem State.Derives.sound (h : s.Derives c d) (sound : s.NetsSound) : d.net.Sound := by
  cases h with
  | fresh => exact Net.placed_sound _ _ _ _ _ _ (s.supervise_reason _ _)
  | kept m held => exact sound m held
  | lost m => exact Net.placed_sound m (s.bridgeSet c) _ _ s.uptime s.timing.quiet (s.supervise_reason _ _)
  | changed m => exact Net.placed_sound m _ _ _ _ _ (s.supervise_reason _ _)

theorem State.Derives.anchor (h : s.Derives c d) (apart : s.NetsApart) (comp : c ∈ s.components) :
    c.head? = some d.net.anchor := by
  cases h with
  | fresh =>
    obtain ⟨nonempty, -⟩ := State.components_sorted comp
    cases c with
    | nil => exact absurd rfl nonempty
    | cons x xs => rfl
  | kept m held members | lost m held members | changed m held members =>
    have head := (apart.1 m held).2.2
    rwa [members] at head

/-- A net that loses its grant, changes its supervision, or is new, does not wait for a test (R50). -/
theorem State.Derives.kept_of_grant (h : s.Derives c d) {b : BridgeId} (grant : s.testGrant d.net = some b) :
    d.fresh = false ∧ ∃ m ∈ s.nets, m.members = c ∧ m.supervision = .own ∧
      (s.supervise c (s.bridgeSet c)).1 = .own ∧ d.net = { m with bridges := s.bridgeSet c } ∧ d.released = none := by
  have idle (m n : Net)
      (state : n.state = (m.placed (s.bridgeSet c) (s.supervise c (s.bridgeSet c)).1 (s.supervise c (s.bridgeSet c)).2
        s.uptime s.timing.quiet).state)
      (quiet : n.quiet = (m.placed (s.bridgeSet c) (s.supervise c (s.bridgeSet c)).1 (s.supervise c (s.bridgeSet c)).2
        s.uptime s.timing.quiet).quiet) : s.testGrant n ≠ some b := by
    rw [State.testGrant_of_placed state quiet]
    simp
  cases h with
  | kept m held members was own => exact ⟨rfl, m, held, members, was, own, rfl, rfl⟩
  | fresh => exact absurd grant (idle (Net.blank (c.headD 0) c (s.bridgeSet c)) _ rfl rfl)
  | lost m => exact absurd grant (idle m _ rfl rfl)
  | changed m => exact absurd grant (idle m _ rfl rfl)

end Derives

/-- Held nets that stand apart are told apart by their members. -/
theorem State.NetsApart.unique {s : State} (apart : s.NetsApart) {m n : Net} (heldM : m ∈ s.nets) (heldN : n ∈ s.nets)
    {x : SegId} (memM : x ∈ m.members) (memN : x ∈ n.members) : m = n := by
  by_contra differ
  have symm : Std.Symm fun m n : Net => ∀ x, x ∈ m.members → x ∉ n.members :=
    ⟨fun _ _ disjoint y inN inM => disjoint y inM inN⟩
  exact apart.2.forall heldM heldN differ x memM memN

theorem State.NetsApart.unique_of_members {s : State} (apart : s.NetsApart) {m n : Net} (heldM : m ∈ s.nets)
    (heldN : n ∈ s.nets) (same : m.members = n.members) : m = n := by
  obtain ⟨x, mem⟩ := List.exists_mem_of_ne_nil _ (apart.1 m heldM).1
  exact apart.unique heldM heldN mem (same ▸ mem)

/-- Two components that share a segment are one. -/
theorem State.component_unique {s : State} {c d : List SegId} (compC : c ∈ s.components) (compD : d ∈ s.components)
    {x : SegId} (memC : x ∈ c) (memD : x ∈ d) : c = d := by
  by_contra differ
  have disjoint := s.components_pairwise.imp (S := fun c d => ∀ x, x ∈ c → x ∉ d) fun h => h.1
  have symm : Std.Symm fun c d : List SegId => ∀ x, x ∈ c → x ∉ d :=
    ⟨fun _ _ disjoint y inD inC => disjoint y inC inD⟩
  exact disjoint.forall compC compD differ x memC memD

/-- A bridge is in the set of a member list exactly when it is attached to a member (R43). -/
theorem State.mem_bridgeSet (s : State) (ms : List SegId) (b : BridgeId) :
    b ∈ s.bridgeSet ms ↔ ∃ x ∈ ms, (s.bridge b).attached = some x := by
  simp only [State.bridgeSet, List.mem_filter, mem_allBridges, true_and, Option.any_iff_exists, List.contains_iff_mem]
  exact exists_congr fun _ => and_comm

/-! ## The state before the tests -/

/-- The grant of this bridge is taken away by a recompute (R44, R45). -/
def State.Taken (s : State) (b : BridgeId) : Prop :=
  (∃ m ∈ s.nets, m.members ∉ s.components ∧ m.grant = some b) ∨ ∃ c ∈ s.components, (s.derive c).released = some b

/-- The answers a BRIDGE_FAULT gives to a segment (R92, R95). -/
def State.faultAnswers (s : State) (x : SegId) (g : Segment) : Segment :=
  s.derivedNets.foldl (fun h d => if d.faultSpots.contains x then h.answerSpot .bridgeFault else h) g

/-- NET_CHANGE on a member of a new net (R46). -/
def State.changeNotice (s : State) (x : SegId) (g : Segment) : Segment :=
  if s.derivedNets.any (fun d => d.fresh && d.net.members.contains x) then g.raise .netChange else g

theorem State.answerFaults_eq (s : State) (ds : List Derived) :
    s.answerFaults ds = s.mapSegs fun x g =>
      ds.foldl (fun h d => if d.faultSpots.contains x then h.answerSpot .bridgeFault else h) g := by
  unfold State.answerFaults
  induction ds generalizing s with
  | nil =>
    refine (State.eq_of_segs (fun x => ?_) rfl).symm
    rw [State.seg_mapSegs, List.foldl_nil]
    cases held : s.seg x <;> rfl
  | cons d ds ih =>
    rw [List.foldl_cons, ih]
    refine State.eq_of_segs (fun x => ?_) rfl
    rw [State.seg_mapSegs, State.seg_answerSpots, State.seg_mapSegs, Option.map_map]
    rfl

theorem State.seg_replaceNets (s : State) (x : SegId) :
    s.replaceNets.seg x = (s.seg x).map fun g => s.changeNotice x (s.faultAnswers x g) := by
  unfold State.replaceNets
  rw [State.raiseNetChange, State.seg_mapSegs, State.answerFaults_eq, State.seg_mapSegs]
  rw [State.releaseAll_but_bridges, State.releaseAll_but_bridges, Option.map_map]
  rfl

theorem State.replaceNets_nets (s : State) : s.replaceNets.nets = s.derivedNets.map (·.net) := by
  unfold State.replaceNets
  rw [State.raiseNetChange, State.mapSegs_nets, State.answerFaults_eq, State.mapSegs_nets,
    State.releaseAll_but_bridges, State.releaseAll_but_bridges]

theorem State.replaceNets_uptime (s : State) : s.replaceNets.uptime = s.uptime :=
  (resolves_replaceNets s).fields.2.2.2.1

theorem State.bridge_replaceNets (s : State) (b : BridgeId) [Decidable (s.Taken b)] :
    s.replaceNets.bridge b = if s.Taken b then (s.bridge b).openSwitches s.uptime else s.bridge b := by
  unfold State.replaceNets
  rw [State.raiseNetChange, State.bridge_mapSegs, State.answerFaults_eq, State.bridge_mapSegs, State.bridge_releaseAll,
    State.bridge_releaseAll]
  have uptime : (State.releaseAll { s with nets := s.derivedNets.map (·.net) } (s.formerNets.map (·.grant))).uptime =
      s.uptime := by
    rw [State.releaseAll_but_bridges]
  have here : State.bridge { s with nets := s.derivedNets.map (·.net) } b = s.bridge b := rfl
  have former : some b ∈ s.formerNets.map (·.grant) ↔ ∃ m ∈ s.nets, m.members ∉ s.components ∧ m.grant = some b := by
    simp [State.formerNets, and_assoc]
  have carried : some b ∈ s.derivedNets.map (·.released) ↔ ∃ c ∈ s.components, (s.derive c).released = some b := by
    simp [State.derivedNets]
  rw [uptime, here]
  unfold State.Taken
  by_cases f : some b ∈ s.formerNets.map (·.grant) <;> by_cases k : some b ∈ s.derivedNets.map (·.released) <;>
    simp only [f, k, former.symm, carried.symm, if_true, if_false, or_true, or_false,
      Bridge.openSwitches_openSwitches]

/-- The state of a recompute before its tests. -/
def State.settled (s : State) : State := s.replaceNets.settleSegments

section Settled

variable (s : State)

theorem State.settled_nets : s.settled.nets = s.components.map fun c => (s.derive c).net := by
  rw [State.settled, State.settleSegments, State.mapSegs_nets, s.replaceNets_nets, State.derivedNets, List.map_map]
  rfl

theorem State.settled_uptime : s.settled.uptime = s.uptime := by
  rw [State.settled, State.settleSegments, State.mapSegs_uptime, s.replaceNets_uptime]

theorem State.bridge_settled (b : BridgeId) [Decidable (s.Taken b)] :
    s.settled.bridge b = if s.Taken b then (s.bridge b).openSwitches s.uptime else s.bridge b := by
  rw [State.settled, State.settleSegments, State.bridge_mapSegs, s.bridge_replaceNets]

theorem State.settled_parked_iff (b : BridgeId) : (s.settled.bridge b).state = .parked ↔ (s.bridge b).state = .parked := by
  classical
  rw [s.bridge_settled]
  split
  · exact Bridge.openSwitches_parked_iff _ _
  · rfl

theorem State.settled_faulted_iff (b : BridgeId) :
    (s.settled.bridge b).state = .faulted ↔ (s.bridge b).state = .faulted := by
  classical
  rw [s.bridge_settled]
  split
  · exact Bridge.openSwitches_faulted_iff _ _
  · rfl

theorem State.settled_testGrant (n : Net) : s.settled.testGrant n = s.testGrant n :=
  State.testGrant_congr s.settled_uptime (fun b _ => s.settled_parked_iff b) fun b _ => s.settled_faulted_iff b

variable {s}

theorem State.NetsApart.derived_anchor (apart : s.NetsApart) {c d : List SegId} (compC : c ∈ s.components)
    (compD : d ∈ s.components) (same : (s.derive c).net.anchor = (s.derive d).net.anchor) : c = d := by
  have headC := (s.derive_derives c).anchor apart compC
  have headD := (s.derive_derives d).anchor apart compD
  rw [same] at headC
  exact State.component_unique compC compD (List.mem_of_head? headC) (List.mem_of_head? headD)

theorem State.NetsApart.settled_distinct (apart : s.NetsApart) : s.settled.NetsDistinct := by
  refine ⟨fun m heldM n heldN same => ?_, fun m heldM n heldN b inM inN => ?_⟩ <;>
    (rw [s.settled_nets] at heldM heldN
     obtain ⟨c, compC, rfl⟩ := List.mem_map.mp heldM
     obtain ⟨d, compD, rfl⟩ := List.mem_map.mp heldN)
  · rw [apart.derived_anchor compC compD same]
  · rw [(s.derive_derives c).bridges, s.mem_bridgeSet] at inM
    rw [(s.derive_derives d).bridges, s.mem_bridgeSet] at inN
    obtain ⟨x, memX, attachedX⟩ := inM
    obtain ⟨y, memY, attachedY⟩ := inN
    obtain rfl := Option.some.inj (attachedX.symm.trans attachedY)
    rw [State.component_unique compC compD memX memY]

/-- The anchors of the carried nets, whose tests end a recompute. -/
def State.carriedAnchors (s : State) : List SegId := (s.derivedNets.filter fun d => !d.fresh).map (·.net.anchor)

theorem State.NetsApart.carriedAnchors_nodup (apart : s.NetsApart) : s.carriedAnchors.Nodup := by
  have anchors : (s.derivedNets.map (·.net.anchor)).Nodup := by
    rw [State.derivedNets, List.map_map]
    refine List.Nodup.map_on (fun c compC d compD same => apart.derived_anchor compC compD same) ?_
    refine s.components_pairwise.imp_of_mem fun {c d} compC _ apart_ same => ?_
    obtain ⟨x, mem⟩ := List.exists_mem_of_ne_nil _ (State.components_sorted compC).1
    exact apart_.1 x mem (same ▸ mem)
  exact anchors.sublist (List.filter_sublist.map _)

theorem State.recompute_eq_tests (s : State) : s.recompute = s.carriedAnchors.foldl State.testWaiting s.settled := rfl

/-- A net that is granted by its test is a carried one. -/
theorem State.anchor_mem_carried {c : List SegId} (comp : c ∈ s.components) {b : BridgeId}
    (grant : s.testGrant (s.derive c).net = some b) : (s.derive c).net.anchor ∈ s.carriedAnchors := by
  obtain ⟨carried, -⟩ := (s.derive_derives c).kept_of_grant grant
  refine List.mem_map.mpr ⟨s.derive c, List.mem_filter.mpr ⟨List.mem_map.mpr ⟨c, comp, rfl⟩, ?_⟩, rfl⟩
  rw [carried]
  rfl

end Settled

/-! ## The state after the tests -/

section Recompute

variable {s : State}

/-- The net that a recompute leaves of a component. -/
def State.outcome (s : State) (c : List SegId) : Net := s.settled.tested (s.derive c).net

theorem State.recompute_segs (apart : s.NetsApart) : s.recompute.segs = s.settled.segs := by
  rw [s.recompute_eq_tests, (State.foldl_testWaiting apart.settled_distinct _ apart.carriedAnchors_nodup).1]

/-- The nets after a recompute are those of the components, each tested (R43 to R45, R51, R58). -/
theorem State.recompute_nets (apart : s.NetsApart) : s.recompute.nets = s.components.map s.outcome := by
  rw [s.recompute_eq_tests, (State.foldl_testWaiting apart.settled_distinct _ apart.carriedAnchors_nodup).1]
  change s.settled.nets.map _ = _
  rw [s.settled_nets, List.map_map]
  refine List.map_congr_left fun c comp => ?_
  rw [Function.comp_apply, State.outcome]
  split
  · rfl
  · next untested =>
    refine (State.tested_of_none ?_).symm
    rw [s.settled_testGrant, Option.eq_none_iff_forall_not_mem]
    exact fun b grant => untested (State.anchor_mem_carried comp grant)

/-- The bridges after a recompute: CLOSE P for a bridge that a test grants, OPEN for one whose grant is taken away (R44,
R45, R81). -/
theorem State.bridge_recompute (apart : s.NetsApart) (b : BridgeId)
    [Decidable (∃ c ∈ s.components, s.testGrant (s.derive c).net = some b)] [Decidable (s.Taken b)] :
    s.recompute.bridge b =
      if ∃ c ∈ s.components, s.testGrant (s.derive c).net = some b then (s.bridge b).closeP s.uptime
      else if s.Taken b then (s.bridge b).openSwitches s.uptime else s.bridge b := by
  classical
  rw [s.recompute_eq_tests, (State.foldl_testWaiting apart.settled_distinct _ apart.carriedAnchors_nodup).2,
    s.bridge_settled, s.settled_uptime]
  have tested_iff : (∃ n ∈ s.settled.nets, n.anchor ∈ s.carriedAnchors ∧ s.settled.testGrant n = some b) ↔
      ∃ c ∈ s.components, s.testGrant (s.derive c).net = some b := by
    simp only [s.settled_nets, List.mem_map, exists_exists_and_eq_and, s.settled_testGrant]
    exact exists_congr fun c => and_congr_right fun comp =>
      ⟨fun h => h.2, fun grant => ⟨State.anchor_mem_carried comp grant, grant⟩⟩
  by_cases tested : ∃ c ∈ s.components, s.testGrant (s.derive c).net = some b
  · rw [if_pos (tested_iff.mpr tested), if_pos tested]
    obtain ⟨c, -, grant⟩ := tested
    split
    · rw [Bridge.openSwitches_of_parked _ _ (State.parked_of_testGrant grant)]
    · rfl
  · rw [if_neg (mt tested_iff.mp tested), if_neg tested]

theorem State.outcome_of_none {c : List SegId} (none_ : s.testGrant (s.derive c).net = none) :
    s.outcome c = (s.derive c).net :=
  State.tested_of_none ((s.settled_testGrant _).trans none_)

theorem State.outcome_of_grant (apart : s.NetsApart) {c : List SegId} {b : BridgeId}
    (grant : s.testGrant (s.derive c).net = some b) :
    s.outcome c = (s.derive c).net.granted b (c.filter s.recompute.spotPending) s.uptime := by
  have pending : s.settled.spotPending = s.recompute.spotPending := by
    funext x
    simp only [State.spotPending, State.seg, State.recompute_segs apart]
  rw [State.outcome, State.tested_of_grant ((s.settled_testGrant _).trans grant), pending, s.settled_uptime,
    (s.derive_derives c).members]

theorem State.outcome_members (c : List SegId) : (s.outcome c).members = c :=
  (State.tested_members _ _).trans (s.derive_derives c).members

theorem State.outcome_bridges (c : List SegId) : (s.outcome c).bridges = s.bridgeSet c :=
  (State.tested_bridges _ _).trans (s.derive_derives c).bridges

theorem State.mem_recompute_nets (apart : s.NetsApart) (n : Net) :
    n ∈ s.recompute.nets ↔ ∃ c ∈ s.components, s.outcome c = n := by
  rw [State.recompute_nets apart, List.mem_map]

end Recompute

end Sys2Proof.Machine

/-! # The segments after a recompute (R46, R47, R53, R54, R92, R95, R132, R137, R143) -/

namespace Sys2Proof.Machine

/-! ## Raised notices by their bits -/

/-- The record with kinds joined to its pending set, and the repeat flag of R143. -/
def Segment.raiseBits (g : Segment) (k : BitVec 8) : Segment :=
  { g with pending := g.pending ||| k, repeated := g.repeated || g.pending &&& k != 0#8 }

theorem Segment.raise_eq_raiseBits (g : Segment) (k : SegNotice) : g.raise k = g.raiseBits k.bit := rfl

theorem Segment.raiseBits_zero (g : Segment) : g.raiseBits 0#8 = g := by
  simp [Segment.raiseBits]

theorem Segment.raiseBits_raiseBits (g : Segment) {k l : BitVec 8} (apart : k &&& l = 0#8) :
    (g.raiseBits k).raiseBits l = g.raiseBits (k ||| l) := by
  obtain ⟨pending, repeated⟩ := raise_twice g.pending g.repeated apart
  simp only [Segment.raiseBits, pending, repeated]

theorem or_and_of_apart (p : BitVec 8) {k l : BitVec 8} (apart : k &&& l = 0#8) : (p ||| k) &&& l = p &&& l := by
  rw [BitVec.and_comm, BitVec.and_or_distrib_left, BitVec.and_comm l k, apart, BitVec.or_zero, BitVec.and_comm]

theorem or_and_same (p k : BitVec 8) : (p ||| k) &&& k = k := by
  ext i
  rw [BitVec.getElem_and, BitVec.getElem_or]
  cases k[i] <;> simp

/-! ## A segment in its net -/

/-- The alarm of a segment after a recompute, by the state of its net (R54, R137). -/
def Segment.settledAlarm (g : Segment) (st : NetState) (v : Verdict) : Alarm :=
  if st ≠ .external then g.alarm else if v = .fault then .fault
  else if g.alarm = .fault ∧ g.latch = true then .fault else .clear

/-- The notice of a pending spot that a recompute answers (R47). -/
def Segment.spotNotice (g : Segment) (st : NetState) : BitVec 8 :=
  if g.spot.isSome ∧ (st = .external ∨ st = .unmeasurable) then 0x02#8 else 0x00#8

/-- The record of a segment in a net in this state, its notices aside (R47, R53, R54). -/
def Segment.placedIn (g : Segment) (st : NetState) (v : Verdict) : Segment :=
  { g with
    ext := decide (st = .external), alarm := g.settledAlarm st v,
    spot := if g.spotNotice st = 0x02#8 then none else g.spot,
    lastSpot := if g.spotNotice st = 0x02#8 then some (if st = .external then .external else .noMeasurement)
      else g.lastSpot }

theorem Segment.applyVerdict_eq (g : Segment) (v : Verdict) :
    g.applyVerdict v = ({ g with alarm := g.settledAlarm .external v } : Segment).raiseBits
      (movedBits g.alarm (g.settledAlarm .external v)) := by
  cases v with
  | fault => exact g.setAlarm_eq_movedTo .fault
  | ok =>
    rw [Segment.applyVerdict_ok]
    simp only [Segment.settledAlarm, ne_eq, not_true_eq_false, if_false, reduceCtorEq]
    split
    · next latched =>
      obtain ⟨fault, -⟩ := latched
      rw [fault, movedBits, Segment.raiseBits_zero]
      rw [← fault]
    · rfl

theorem spotDone_apart (a b : Alarm) : 0x02#8 &&& movedBits a b = 0#8 := by cases a <;> cases b <;> decide

/-- A segment settles with its record by the state of its net, and the notices of its answer and of its alarm raised
(R47, R53, R54, R95, R132). -/
theorem Segment.settleIn_eq (g : Segment) (st : NetState) (v : Verdict) :
    g.settleIn st v = (g.placedIn st v).raiseBits (g.spotNotice st ||| movedBits g.alarm (g.settledAlarm st v)) := by
  have idle : movedBits g.alarm g.alarm = 0#8 := by cases g.alarm <;> rfl
  cases st with
  | external =>
    cases spot : g.spot with
    | none =>
      simp only [Segment.settleIn, spot, Segment.applyVerdict_eq, Segment.placedIn, Segment.spotNotice]
      simp [Segment.settledAlarm, Segment.raiseBits]
    | some t =>
      have answered : (g.settleIn .external v) =
          ((({ g with ext := true, spot := none, lastSpot := some .external } : Segment).raiseBits 0x02#8).applyVerdict v) := by
        simp only [Segment.settleIn, spot]
        rfl
      rw [answered, Segment.applyVerdict_eq]
      have split_ (k : BitVec 8) (apart : 0x02#8 &&& k = 0#8) (h : Segment) (a : Alarm) :
          ({ h.raiseBits 0x02#8 with alarm := a } : Segment).raiseBits k =
            ({ h with alarm := a } : Segment).raiseBits (0x02#8 ||| k) :=
        Segment.raiseBits_raiseBits { h with alarm := a } apart
      have notice : g.spotNotice .external = 0x02#8 := by simp [Segment.spotNotice, spot]
      rw [split_ _ (spotDone_apart _ _)]
      simp only [Segment.placedIn, notice, if_true]
      rfl
  | unmeasurable =>
    cases spot : g.spot <;>
      simp [Segment.settleIn, Segment.placedIn, Segment.spotNotice, Segment.settledAlarm, Segment.answerSpot_eq,
        Segment.raiseBits, spot, idle]
  | quiet | rest | phaseP | phaseN | release =>
    simp [Segment.settleIn, Segment.placedIn, Segment.spotNotice, Segment.settledAlarm, Segment.raiseBits, idle]

/-! ## The answers of a BRIDGE_FAULT -/

/-- The record with a spot answered by BRIDGE_FAULT, its repeat flag aside (R92, R95). -/
def Segment.FaultAnswered (g h : Segment) : Prop :=
  h = { g with spot := none, lastSpot := some .bridgeFault, pending := g.pending ||| 0x02#8, repeated := h.repeated }

theorem Segment.answerSpot_faultAnswered (g : Segment) : g.FaultAnswered (g.answerSpot .bridgeFault) := rfl

theorem Segment.FaultAnswered.answerSpot {g h : Segment} (answered : g.FaultAnswered h) :
    g.FaultAnswered (h.answerSpot .bridgeFault) := by
  unfold Segment.FaultAnswered at *
  rw [Segment.answerSpot_eq, answered]
  simp [BitVec.or_assoc]

section Segments

variable {s : State}

theorem foldl_answers_of_answered (ds : List Derived) (x : SegId) {g h : Segment} (answered : g.FaultAnswered h) :
    g.FaultAnswered (ds.foldl (fun h d => if d.faultSpots.contains x then h.answerSpot .bridgeFault else h) h) := by
  induction ds generalizing h with
  | nil => exact answered
  | cons d ds ih =>
    rw [List.foldl_cons]
    split
    · exact ih answered.answerSpot
    · exact ih answered

theorem State.faultAnswers_of_mem {c : List SegId} (comp : c ∈ s.components) {x : SegId}
    (mem : x ∈ (s.derive c).faultSpots) (g : Segment) : g.FaultAnswered (s.faultAnswers x g) := by
  have inDerived : s.derive c ∈ s.derivedNets := List.mem_map.mpr ⟨c, comp, rfl⟩
  unfold State.faultAnswers
  revert inDerived
  induction s.derivedNets generalizing g with
  | nil => simp
  | cons d ds ih =>
    intro inDerived
    rw [List.foldl_cons]
    split
    · exact foldl_answers_of_answered ds x g.answerSpot_faultAnswered
    · next other =>
      rcases List.mem_cons.mp inDerived with rfl | later
      · exact absurd (by simpa using mem) other
      · exact ih g later

theorem State.faultAnswers_of_not_mem {x : SegId} (none_ : ∀ c ∈ s.components, x ∉ (s.derive c).faultSpots)
    (g : Segment) : s.faultAnswers x g = g := by
  have spared : ∀ d ∈ s.derivedNets, x ∉ d.faultSpots := by
    intro d inDerived
    obtain ⟨c, comp, rfl⟩ := List.mem_map.mp inDerived
    exact none_ c comp
  unfold State.faultAnswers
  revert spared
  induction s.derivedNets with
  | nil => intro _; rfl
  | cons d ds ih =>
    intro spared
    rw [List.foldl_cons, if_neg (by simpa using spared d List.mem_cons_self)]
    exact ih fun e later => spared e (List.mem_cons_of_mem _ later)

theorem State.faultAnswers_cases (x : SegId) (g : Segment) :
    s.faultAnswers x g = g ∨ g.FaultAnswered (s.faultAnswers x g) := by
  by_cases answered : ∃ c ∈ s.components, x ∈ (s.derive c).faultSpots
  · obtain ⟨c, comp, mem⟩ := answered
    exact .inr (State.faultAnswers_of_mem comp mem g)
  · exact .inl (State.faultAnswers_of_not_mem (fun c comp mem => answered ⟨c, comp, mem⟩) g)

/-! ## The net of a segment, and its record -/

theorem State.derive_fresh_iff (c : List SegId) : (s.derive c).fresh = true ↔ ∀ m ∈ s.nets, m.members ≠ c := by
  have derives := s.derive_derives c
  revert derives
  generalize s.derive c = d
  intro derives
  cases derives with
  | fresh new => simpa using new
  | kept m held members | lost m held members | changed m held members =>
    simp only [Bool.false_eq_true, false_iff, not_forall]
    exact ⟨m, held, not_not.mpr members⟩

theorem State.changeNotice_eq {c : List SegId} (comp : c ∈ s.components) {x : SegId} (mem : x ∈ c) (g : Segment) :
    s.changeNotice x g = g.raiseBits (if ∃ m ∈ s.nets, m.members = c then 0x00#8 else 0x04#8) := by
  have new_iff : (s.derivedNets.any fun d => d.fresh && d.net.members.contains x) = true ↔
      ¬ ∃ m ∈ s.nets, m.members = c := by
    simp only [State.derivedNets, List.any_map, List.any_eq_true, Function.comp_apply, Bool.and_eq_true,
      (s.derive_derives _).members, List.contains_iff_mem, State.derive_fresh_iff, not_exists, not_and]
    refine ⟨fun ⟨d, compD, new, memD⟩ => ?_, fun new => ⟨c, comp, new, mem⟩⟩
    rwa [State.component_unique comp compD mem memD]
  unfold State.changeNotice
  by_cases held : ∃ m ∈ s.nets, m.members = c
  · rw [if_neg (mt new_iff.mp (not_not.mpr held)), if_pos held, g.raiseBits_zero]
  · rw [if_pos (new_iff.mpr held), if_neg held]
    rfl

/-- The verdict reads the sources and the EXT lines, which a recompute leaves (R54). -/
theorem Resolves.verdict {t : State} (h : Resolves s t) (ms : List SegId) : t.verdict ms = s.verdict ms := by
  have ext : t.ext = s.ext := h.fields.2.2.2.2.2.2.1
  have source (x : SegId) (p : Source → Bool) : (t.seg x).any (fun g => p g.source) = (s.seg x).any fun g => p g.source := by
    have kept := h.segs x
    cases before : s.seg x with
    | none =>
      cases after : t.seg x with
      | none => rfl
      | some k => rw [before, after] at kept; exact kept.elim
    | some g =>
      cases after : t.seg x with
      | none => rw [before, after] at kept; exact kept.elim
      | some k =>
        rw [before, after] at kept
        have kept : g.Kept k := kept
        rw [Option.any_some, Option.any_some, kept]
  simp only [State.verdict, ext, source]

theorem State.netOf_replaceNets {c : List SegId} (comp : c ∈ s.components) {x : SegId} (mem : x ∈ c) :
    s.replaceNets.netOf x = some (s.derive c).net := by
  have isNet : (s.derive c).net ∈ s.replaceNets.nets := by
    rw [s.replaceNets_nets]
    exact List.mem_map.mpr ⟨_, List.mem_map.mpr ⟨c, comp, rfl⟩, rfl⟩
  have holds : (s.derive c).net.members.contains x = true := by
    rw [(s.derive_derives c).members]
    simpa using mem
  cases found : s.replaceNets.netOf x with
  | none => exact absurd holds (List.find?_eq_none.mp found _ isNet)
  | some n =>
    have memN : n.members.contains x = true := List.find?_some (p := fun n : Net => n.members.contains x) found
    have heldN : n ∈ s.replaceNets.nets := List.mem_of_find?_eq_some found
    rw [s.replaceNets_nets, State.derivedNets, List.map_map] at heldN
    obtain ⟨d, compD, rfl⟩ := List.mem_map.mp heldN
    have memD : x ∈ d := by
      rw [Function.comp_apply, (s.derive_derives d).members] at memN
      simpa using memN
    rw [State.component_unique comp compD mem memD]
    rfl

/-- The record of a member of a component after a recompute (R46, R47, R53, R54, R92). -/
theorem State.seg_recompute (apart : s.NetsApart) {c : List SegId} (comp : c ∈ s.components) {x : SegId} (mem : x ∈ c) :
    s.recompute.seg x = (s.seg x).map fun g =>
      (s.changeNotice x (s.faultAnswers x g)).settleIn (s.derive c).net.state (s.verdict c) := by
  rw [State.seg, State.recompute_segs apart]
  change s.settled.seg x = _
  rw [State.settled, State.settleSegments, State.seg_mapSegs, s.seg_replaceNets, Option.map_map,
    State.netOf_replaceNets comp mem]
  dsimp only
  rw [(resolves_replaceNets s).verdict, (s.derive_derives c).members]
  rfl

/-- A segment that no BRIDGE_FAULT answers, record and notices (R46, R47, R53, R54, R95, R132, R143). -/
theorem State.seg_recompute_unanswered (apart : s.NetsApart) {c : List SegId} (comp : c ∈ s.components) {x : SegId}
    (mem : x ∈ c) (g : Segment) (held : s.seg x = some g) (none_ : ∀ c ∈ s.components, x ∉ (s.derive c).faultSpots) :
    s.recompute.seg x = some ((g.placedIn (s.derive c).net.state (s.verdict c)).raiseBits
      ((if ∃ m ∈ s.nets, m.members = c then 0x00#8 else 0x04#8) |||
        (g.spotNotice (s.derive c).net.state |||
          movedBits g.alarm (g.settledAlarm (s.derive c).net.state (s.verdict c))))) := by
  rw [State.seg_recompute apart comp mem, held, Option.map_some, State.faultAnswers_of_not_mem none_,
    State.changeNotice_eq comp mem, Segment.settleIn_eq]
  generalize change_ : (if ∃ m ∈ s.nets, m.members = c then 0x00#8 else 0x04#8) = change
  generalize (s.derive c).net.state = st
  generalize s.verdict c = v
  have apart_ : change &&& (g.spotNotice st ||| movedBits g.alarm (g.settledAlarm st v)) = 0#8 := by
    generalize g.alarm = a
    generalize g.settledAlarm st v = b
    rw [← change_, Segment.spotNotice]
    split <;> split <;> cases a <;> cases b <;> decide
  exact congrArg some ((g.placedIn st v).raiseBits_raiseBits apart_)

/-- What every member of a component keeps and gains in a recompute, answered by BRIDGE_FAULT or not: the record by the
state of its net, and NET_CHANGE in a new net only (R46, R47, R53, R54). -/
theorem State.seg_recompute_fields (apart : s.NetsApart) {c : List SegId} (comp : c ∈ s.components) {x : SegId}
    (mem : x ∈ c) {g h : Segment} (held : s.seg x = some g) (after : s.recompute.seg x = some h) :
    h.ext = decide ((s.derive c).net.state = .external) ∧
    h.alarm = g.settledAlarm (s.derive c).net.state (s.verdict c) ∧
    ((s.derive c).net.state = .external ∨ (s.derive c).net.state = .unmeasurable → h.spot = none) ∧
    h.pending &&& 0x04#8 = (if ∃ m ∈ s.nets, m.members = c then g.pending &&& 0x04#8 else 0x04#8) := by
  rw [State.seg_recompute apart comp mem, held, Option.map_some, State.changeNotice_eq comp mem,
    Segment.settleIn_eq, Option.some.injEq] at after
  subst after
  generalize change_ : (if ∃ m ∈ s.nets, m.members = c then 0x00#8 else 0x04#8) = change
  generalize (s.derive c).net.state = st
  generalize s.verdict c = v
  have base : (s.faultAnswers x g).alarm = g.alarm ∧ (s.faultAnswers x g).latch = g.latch ∧
      (s.faultAnswers x g).pending &&& 0x04#8 = g.pending &&& 0x04#8 := by
    rcases s.faultAnswers_cases x g with same | answered
    · rw [same]; exact ⟨rfl, rfl, rfl⟩
    · rw [answered]
      refine ⟨rfl, rfl, ?_⟩
      exact or_and_of_apart g.pending (by decide)
  obtain ⟨alarm, latch, pending⟩ := base
  refine ⟨rfl, ?_, fun spotless => ?_, ?_⟩
  · change (Segment.settledAlarm _ st v) = _
    simp only [Segment.settledAlarm, Segment.raiseBits, alarm, latch]
  · change (if Segment.spotNotice _ st = 0x02#8 then none else (s.faultAnswers x g).spot) = none
    rw [Segment.spotNotice]
    cases spot : (s.faultAnswers x g).spot <;> simp [Segment.raiseBits, spot, spotless]
  · generalize s.faultAnswers x g = k at *
    have settled : ((k.raiseBits change).spotNotice st ||| movedBits (k.raiseBits change).alarm
        ((k.raiseBits change).settledAlarm st v)) &&& 0x04#8 = 0#8 := by
      generalize (k.raiseBits change).alarm = a
      generalize (k.raiseBits change).settledAlarm st v = b
      rw [Segment.spotNotice]
      split <;> cases a <;> cases b <;> decide
    change ((k.pending ||| change) ||| _) &&& 0x04#8 = _
    rw [or_and_of_apart _ settled, ← change_]
    split
    · rw [BitVec.or_zero, pending]
    · exact or_and_same _ _

end Segments

end Sys2Proof.Machine

/-! # The statements about the recompute (R41 to R58, R91, R92) -/

namespace Sys2Proof.Machine

/-! ## What a recompute leaves of the tables -/

/-- The components read which segments are DEFINED and the ends of the joining links (R41). -/
theorem State.components_congr {s t : State} (defined : ∀ x, (t.seg x).isSome = (s.seg x).isSome)
    (joints : ∀ i, t.joint i = s.joint i) : t.components = s.components := by
  have labels : t.labels = s.labels := by
    rw [t.labels_eq, s.labels_eq]
    unfold State.labelsBy
    simp only [joints]
  have component : t.component = s.component := by
    funext v a
    simp only [State.component, defined]
  have anchors : t.anchors = s.anchors := by
    simp only [State.anchors, defined, labels]
  rw [t.components_eq, s.components_eq, labels, component, anchors]

theorem SegsKept.isSome {r : Segment → Segment → Prop} {s t : State} (h : SegsKept r s t) (x : SegId) :
    (t.seg x).isSome = (s.seg x).isSome := by
  have kept := h x
  cases before : s.seg x <;> cases after : t.seg x <;> simp_all

theorem State.joint_congr {s t : State} (links : ∀ i, t.link i = s.link i)
    (defined : ∀ x, (t.seg x).isSome = (s.seg x).isSome) (i : LinkId) : t.joint i = s.joint i := by
  have joins : t.joins = s.joins := funext fun l => by simp only [State.joins, defined]
  rw [State.joint, State.joint, links, joins]

section Resolves

variable {s t : State} (h : Resolves s t)

include h

theorem Resolves.link (i : LinkId) : t.link i = s.link i := by
  rw [State.link, h.fields.2.2.2.2.1, State.link]

theorem Resolves.components : t.components = s.components :=
  State.components_congr h.segs.isSome (State.joint_congr h.link h.segs.isSome)

theorem Resolves.eq_but : t = { s with segs := t.segs, nets := t.nets, bridges := t.bridges } := by
  obtain ⟨pending, supply, reset, uptime, links, aux, ext, timing, devP, devE, devR⟩ := h.fields
  have port := h.port
  have alert := h.alert
  have fault := h.faultLine
  cases s
  cases t
  simp_all only

theorem Resolves.seg_none {x : SegId} (free : s.seg x = none) : t.seg x = none := by
  have defined := h.segs.isSome x
  rw [free] at defined
  simpa using defined

theorem Resolves.exists_seg {x : SegId} {k : Segment} (held : t.seg x = some k) :
    ∃ g, s.seg x = some g ∧ g.Kept k := by
  have kept := h.segs x
  cases before : s.seg x with
  | none => rw [before, held] at kept; exact kept.elim
  | some g => rw [before, held] at kept; exact ⟨g, rfl, kept⟩

end Resolves

/-! ## The nets of a recompute -/

section Nets

variable {s : State}

theorem Net.Sound.own_iff {n : Net} (sound : n.Sound) :
    n.supervision = .own ↔ n.state ≠ .external ∧ n.state ≠ .unmeasurable := by
  obtain ⟨external, none_, -⟩ := sound
  rw [Ne, Ne, ← external, ← none_]
  cases n.supervision <;> simp

theorem Net.Sound.own_of_grant {n : Net} (sound : n.Sound) {b : BridgeId} (grant : n.grant = some b) :
    n.supervision = .own := by
  rw [sound.own_iff]
  obtain ⟨-, -, grants, -⟩ := sound
  rcases grants.mp (by rw [grant]; rfl) with state | state | state <;> rw [state] <;> decide

theorem Net.granted_sound {n : Net} (own : n.supervision = .own) (b : BridgeId) (cov : List SegId) (now : Uptime) :
    (n.granted b cov now).Sound := by
  simp [Net.Sound, Net.granted, Net.idle, Net.dropCycle, own]

theorem State.outcome_sound (apart : s.NetsApart) (sound : s.NetsSound) (c : List SegId) : (s.outcome c).Sound := by
  have derives := s.derive_derives c
  cases grant : s.testGrant (s.derive c).net with
  | none => rw [State.outcome_of_none grant]; exact derives.sound sound
  | some b =>
    obtain ⟨-, m, -, -, was, -, net, -⟩ := derives.kept_of_grant grant
    rw [State.outcome_of_grant apart grant]
    exact Net.granted_sound (by rw [net]; exact was) _ _ _

theorem State.outcome_supervision (apart : s.NetsApart) (sound : s.NetsSound) (c : List SegId) :
    ((s.outcome c).supervision, (s.outcome c).reason) = s.supervise c (s.bridgeSet c) := by
  have derives := s.derive_derives c
  have decided := derives.supervision sound
  cases grant : s.testGrant (s.derive c).net with
  | none => rw [State.outcome_of_none grant, decided]
  | some b =>
    obtain ⟨-, m, -, -, -, own, -⟩ := derives.kept_of_grant grant
    have supervision : (s.derive c).net.supervision = (s.supervise c (s.bridgeSet c)).1 := congrArg Prod.fst decided
    rw [State.outcome_of_grant apart grant]
    exact Prod.ext supervision (State.supervise_own_reason own).symm

theorem State.outcome_fst (apart : s.NetsApart) (sound : s.NetsSound) (c : List SegId) :
    (s.outcome c).supervision = (s.supervise c (s.bridgeSet c)).1 :=
  congrArg Prod.fst (State.outcome_supervision apart sound c)

/-- A test leaves a net EXTERNAL or UNMEASURABLE exactly when it finds it so (R40). -/
theorem State.outcome_state_iff (apart : s.NetsApart) (sound : s.NetsSound) (c : List SegId) :
    ((s.derive c).net.state = .external ↔ (s.outcome c).state = .external) ∧
    ((s.derive c).net.state = .unmeasurable ↔ (s.outcome c).state = .unmeasurable) := by
  obtain ⟨external, none_, -⟩ := (s.derive_derives c).sound sound
  obtain ⟨external', none_', -⟩ := State.outcome_sound apart sound c
  rw [← external, ← none_, ← external', ← none_', State.outcome, State.tested_supervision]
  exact ⟨.rfl, .rfl⟩

theorem State.recompute_netsAreComponents (apart : s.NetsApart) : s.recompute.NetsAreComponents := by
  refine ⟨?_, fun n held => ?_⟩
  · rw [State.recompute_nets apart, List.map_map, (resolves_recompute s).components]
    exact (List.map_congr_left fun c _ => State.outcome_members c).trans (List.map_id _)
  · obtain ⟨c, comp, rfl⟩ := (State.mem_recompute_nets apart n).mp held
    rw [State.outcome_members, (s.derive_derives c).anchor apart comp, State.outcome, State.tested_anchor]

/-- A carried OWN net whose grant, if it has one, stays usable (R45). -/
theorem State.derive_kept (apart : s.NetsApart) {m : Net} (held : m ∈ s.nets) (was : m.supervision = .own)
    (own : (s.supervise m.members (s.bridgeSet m.members)).1 = .own)
    (usable : ∀ b, m.grant = some b → b ∈ s.bridgeSet m.members ∧ (s.bridge b).state ≠ .faulted) :
    (s.derive m.members).net = { m with bridges := s.bridgeSet m.members } := by
  have derives := s.derive_derives m.members
  revert derives
  generalize s.derive m.members = d
  intro derives
  cases derives with
  | fresh new => exact absurd rfl (new m held)
  | kept m' held' members => rw [apart.unique_of_members held' held members]
  | lost m' held' members _ o _ interrupted =>
    obtain ⟨b, grant, taken⟩ := interrupted own
    rw [apart.unique_of_members held' held members] at grant
    obtain ⟨inside, working⟩ := usable b grant
    exact (taken.elim (fun h => h.1 inside) fun h => working h.2.1).elim
  | changed m' held' members other =>
    rw [apart.unique_of_members held' held members] at other
    exact absurd was other

/-- A carried net that was EXTERNAL or UNMEASURABLE (R45). -/
theorem State.outcome_changed (apart : s.NetsApart) {m : Net} (held : m ∈ s.nets) (other : m.supervision ≠ .own) :
    s.outcome m.members = m.placed (s.bridgeSet m.members) (s.supervise m.members (s.bridgeSet m.members)).1
      (s.supervise m.members (s.bridgeSet m.members)).2 s.uptime s.timing.quiet := by
  have net : (s.derive m.members).net = m.placed (s.bridgeSet m.members)
      (s.supervise m.members (s.bridgeSet m.members)).1 (s.supervise m.members (s.bridgeSet m.members)).2 s.uptime
      s.timing.quiet := by
    have derives := s.derive_derives m.members
    revert derives
    generalize s.derive m.members = d
    intro derives
    cases derives with
    | fresh new => exact absurd rfl (new m held)
    | kept m' held' members was | lost m' held' members was =>
      rw [apart.unique_of_members held' held members] at was
      exact absurd was other
    | changed m' held' members => rw [apart.unique_of_members held' held members]
  rw [State.outcome_of_none (by rw [net]; exact State.testGrant_of_placed rfl rfl), net]

/-- A net with a member set that no held net has (R44). -/
theorem State.outcome_fresh {c : List SegId} (new : ∀ m ∈ s.nets, m.members ≠ c) :
    s.outcome c = (Net.blank (c.headD 0) c (s.bridgeSet c)).placed (s.bridgeSet c) (s.supervise c (s.bridgeSet c)).1
      (s.supervise c (s.bridgeSet c)).2 s.uptime s.timing.quiet := by
  have net : (s.derive c).net = (Net.blank (c.headD 0) c (s.bridgeSet c)).placed (s.bridgeSet c)
      (s.supervise c (s.bridgeSet c)).1 (s.supervise c (s.bridgeSet c)).2 s.uptime s.timing.quiet := by
    have derives := s.derive_derives c
    revert derives
    generalize s.derive c = d
    intro derives
    cases derives with
    | fresh => rfl
    | kept m held members | lost m held members | changed m held members => exact absurd members (new m held)
  rw [State.outcome_of_none (by rw [net]; exact State.testGrant_of_placed rfl rfl), net]

/-- The test of a carried OWN net reads what the held record says (R51, R58). -/
theorem State.waitIsOver_bridges (m : Net) (bs : List BridgeId) :
    s.WaitIsOver { m with bridges := bs } bs ↔ s.WaitIsOver m bs := .rfl

/-- The wait of an OWN net that is over ends with a PARKED bridge (R48, R51, R58). -/
theorem State.WaitIsOver.parked {m : Net} {c : List SegId} (waits : s.WaitIsOver m (s.bridgeSet c))
    (own : (s.supervise c (s.bridgeSet c)).1 = .own) : ∃ b ∈ s.bridgeSet c, (s.bridge b).state = .parked := by
  rcases waits with ⟨-, -, settled⟩ | ⟨-, -, parked⟩
  · obtain ⟨b, mem, working⟩ := State.supervise_own own
    exact ⟨b, mem, (settled b mem).resolve_right working⟩
  · exact parked

end Nets

/-! ## A member's record by the state of its net -/

section Members

variable {s : State}

theorem Segment.settledAlarm_congr (g : Segment) {st st' : NetState} (external : st = .external ↔ st' = .external)
    (v : Verdict) : g.settledAlarm st v = g.settledAlarm st' v := by
  simp only [Segment.settledAlarm, ne_eq, external]

theorem Segment.spotNotice_congr (g : Segment) {st st' : NetState} (external : st = .external ↔ st' = .external)
    (unmeasurable : st = .unmeasurable ↔ st' = .unmeasurable) : g.spotNotice st = g.spotNotice st' := by
  simp only [Segment.spotNotice, external, unmeasurable]

theorem Segment.placedIn_congr (g : Segment) {st st' : NetState} (external : st = .external ↔ st' = .external)
    (unmeasurable : st = .unmeasurable ↔ st' = .unmeasurable) (v : Verdict) : g.placedIn st v = g.placedIn st' v := by
  simp only [Segment.placedIn, g.spotNotice_congr external unmeasurable, g.settledAlarm_congr external, external]

/-- Only a BRIDGE_FAULT on a FAULTED granted bridge answers covered spots (R92). -/
theorem State.not_mem_faultSpots {x : SegId}
    (working : ∀ m ∈ s.nets, ∀ b, x ∈ m.covered → m.grant = some b → (s.bridge b).state ≠ .faulted) (c : List SegId) :
    x ∉ (s.derive c).faultSpots := by
  have derives := s.derive_derives c
  revert derives
  generalize s.derive c = d
  intro derives
  cases derives with
  | fresh | kept | changed => exact List.not_mem_nil
  | lost m held members was o ending =>
    dsimp only
    split
    · next fault =>
      intro mem
      rcases ending with abandoned | ⟨-, -, b, grant, faulted⟩
      · rw [abandoned] at fault; cases fault.2
      · exact working m held b mem grant faulted
    · exact List.not_mem_nil

/-- The state of a net after a recompute decides the records of its members. -/
theorem State.member_fields (apart : s.NetsApart) (sound : s.NetsSound) {c : List SegId} (comp : c ∈ s.components)
    {x : SegId} (mem : x ∈ c) {g h : Segment} (held : s.seg x = some g) (after : s.recompute.seg x = some h) :
    h.ext = decide ((s.outcome c).state = .external) ∧
    h.alarm = g.settledAlarm (s.outcome c).state (s.verdict c) ∧
    ((s.outcome c).state = .external ∨ (s.outcome c).state = .unmeasurable → h.spot = none) ∧
    h.pending &&& 0x04#8 = (if ∃ m ∈ s.nets, m.members = c then g.pending &&& 0x04#8 else 0x04#8) := by
  obtain ⟨external, unmeasurable⟩ := State.outcome_state_iff apart sound c
  have fields := State.seg_recompute_fields apart comp mem held after
  rwa [g.settledAlarm_congr external, decide_eq_decide.mpr external, external, unmeasurable] at fields

theorem State.member_unanswered (apart : s.NetsApart) (sound : s.NetsSound) {c : List SegId} (comp : c ∈ s.components)
    {x : SegId} (mem : x ∈ c) {g h : Segment} (held : s.seg x = some g) (after : s.recompute.seg x = some h)
    (working : ∀ m ∈ s.nets, ∀ b, x ∈ m.covered → m.grant = some b → (s.bridge b).state ≠ .faulted) :
    h = (g.placedIn (s.outcome c).state (s.verdict c)).raiseBits
      ((if ∃ m ∈ s.nets, m.members = c then 0x00#8 else 0x04#8) |||
        (g.spotNotice (s.outcome c).state ||| movedBits g.alarm (g.settledAlarm (s.outcome c).state (s.verdict c)))) := by
  obtain ⟨external, unmeasurable⟩ := State.outcome_state_iff apart sound c
  rw [State.seg_recompute_unanswered apart comp mem g held fun c _ => State.not_mem_faultSpots working c,
    Option.some.injEq, g.placedIn_congr external unmeasurable, g.spotNotice_congr external unmeasurable,
    g.settledAlarm_congr external] at after
  exact after.symm

end Members

/-- Settles O54. -/
theorem recomputeDerivesNets : Obligations.RecomputeDerivesNets := by
  unfold Obligations.RecomputeDerivesNets
  rintro s t apart sound rfl
  have resolved := resolves_recompute s
  have netOf (n : Net) (held : n ∈ s.recompute.nets) : ∃ c ∈ s.components, s.outcome c = n :=
    (State.mem_recompute_nets apart n).mp held
  refine ⟨State.recompute_netsAreComponents apart, fun n held => ?_, resolved.eq_but, fun x => resolved.seg_none,
    fun n held => ?_, fun n held new => ?_, fun m heldM n heldN same phase own usable => ?_,
    fun m heldM n heldN k same waiting own hk => ?_, fun m heldM n heldN same x mem g h before after => ?_,
    fun n held x mem g h before after => ?_,
    fun n held x mem g h alarm change answer moved before after working halarm hchange hanswer hmoved => ?_⟩
  · obtain ⟨c, comp, rfl⟩ := netOf n held
    exact State.outcome_sound apart sound c
  · obtain ⟨c, comp, rfl⟩ := netOf n held
    rw [State.outcome_bridges, State.outcome_members]
    exact ⟨rfl, State.outcome_supervision apart sound c⟩
  · obtain ⟨c, comp, rfl⟩ := netOf n held
    rw [State.outcome_members] at new ⊢
    rw [State.outcome_fresh new]
    refine ⟨rfl, rfl, rfl, rfl, rfl, rfl, rfl, rfl, rfl, rfl, fun own => ?_, fun x mem h after => ?_⟩
    · have own : (s.supervise c (s.bridgeSet c)).1 = .own := own
      simp only [Net.placed, own, if_true, and_self]
    · obtain ⟨g, before, -⟩ := resolved.exists_seg after
      obtain ⟨-, -, -, pending⟩ := State.member_fields apart sound comp mem before after
      rw [pending, if_neg fun ⟨m, heldM, members⟩ => new m heldM members]
      decide
  · obtain ⟨c, comp, rfl⟩ := netOf n heldN
    rw [State.outcome_members] at same
    subst same
    rw [State.outcome_fst apart sound] at own
    have was : m.supervision = .own :=
      (sound m heldM).own_iff.mpr (by rcases phase with h | h | h <;> rw [h] <;> decide)
    have net := State.derive_kept apart heldM was own usable
    rw [State.outcome_of_none, net]
    rw [net, Option.eq_none_iff_forall_not_mem]
    intro b grant
    rcases ((s.testGrant_eq_some_iff _ b).mp grant).1 with ⟨state, -⟩ | ⟨state, -⟩ <;>
      (change m.state = _ at state; rw [state] at phase; simp at phase)
  · obtain ⟨c, comp, rfl⟩ := netOf n heldN
    rw [State.outcome_members] at same
    subst same
    rw [State.outcome_fst apart sound] at own
    have was : m.supervision = .own :=
      (sound m heldM).own_iff.mpr (by rcases waiting with h | h <;> rw [h] <;> decide)
    have net : (s.derive m.members).net = k := by
      rw [hk]
      refine State.derive_kept apart heldM was own fun b grant => ?_
      obtain ⟨-, -, grants, -⟩ := sound m heldM
      rw [grant] at grants
      rcases waiting with h | h <;> simp [h] at grants
    have bridges : k.bridges = s.bridgeSet m.members := by rw [hk]
    have waits_iff : s.WaitIsOver k k.bridges ↔ s.WaitIsOver m k.bridges := by rw [bridges, hk]; rfl
    refine ⟨fun running => ?_, fun waits => ?_⟩
    · rw [State.outcome_of_none, net]
      rw [net, Option.eq_none_iff_forall_not_mem]
      exact fun b grant => running (waits_iff.mp ((s.testGrant_eq_some_iff k b).mp grant).1)
    · obtain ⟨b, next⟩ : ∃ b, s.nextBridge k = some b := by
        rw [← Option.isSome_iff_exists, s.nextBridge_isSome_iff, bridges]
        exact State.WaitIsOver.parked (bridges ▸ waits) own
      have grantee : s.Grantee k b := (s.nextBridge_eq_some_iff k b).mp next
      have grant : s.testGrant (s.derive m.members).net = some b := by
        rw [net, s.testGrant_eq_some_iff]
        exact ⟨waits_iff.mpr waits, grantee⟩
      refine ⟨b, grantee, ?_, ?_⟩
      · classical
        rw [State.bridge_recompute apart, if_pos ⟨_, comp, grant⟩]
      · rw [State.outcome_members, State.outcome_of_grant apart grant, net]
        rfl
  · obtain ⟨c, comp, rfl⟩ := netOf n heldN
    rw [State.outcome_members] at same mem
    obtain ⟨-, -, -, pending⟩ := State.member_fields apart sound comp mem before after
    rw [pending, if_pos ⟨m, heldM, same.symm⟩]
  · obtain ⟨c, comp, rfl⟩ := netOf n held
    rw [State.outcome_members] at mem ⊢
    obtain ⟨ext, alarm, spot, -⟩ := State.member_fields apart sound comp mem before after
    refine ⟨by rw [ext, decide_eq_true_eq], spot, fun external fault => ?_, fun external ok => ?_, fun other => ?_⟩
    · rw [alarm, Segment.settledAlarm, if_neg (not_not.mpr external), if_pos fault]
    · rw [alarm, Segment.settledAlarm, if_neg (not_not.mpr external), ok, if_neg (by decide)]
    · rw [alarm, Segment.settledAlarm, if_pos other]
  · obtain ⟨c, comp, rfl⟩ := netOf n held
    rw [State.outcome_members] at mem halarm hchange
    have record := State.member_unanswered apart sound comp mem before after working
    have notice : g.spotNotice (s.outcome c).state = answer := hanswer.symm
    have settled : g.settledAlarm (s.outcome c).state (s.verdict c) = alarm := halarm.symm
    rw [record, Segment.raiseBits, Segment.placedIn, notice, settled, ← hmoved, ← hchange, BitVec.or_assoc]

end Sys2Proof.Machine

/-! # The grants and cycles that a recompute takes away (R44, R45, R49, R50, R53, R91, R92) -/

namespace Sys2Proof.Machine

section Interrupted

variable {s : State}

/-- A carried OWN net that loses its grant, or its supervision with it: the ending, and the record it is left with (R45,
R91, R92). -/
theorem State.derive_lost (apart : s.NetsApart) {m : Net} (held : m ∈ s.nets) (was : m.supervision = .own)
    {b : BridgeId} (grant : m.grant = some b) {o : CycleOutcome}
    (loses : (b ∉ s.bridgeSet m.members ∧ (s.bridge b).state ≠ .faulted) ∨
      (b ∈ s.bridgeSet m.members ∧ (s.bridge b).state = .faulted) ∨
      (s.supervise m.members (s.bridgeSet m.members)).1 ≠ .own)
    (ho : o = if (s.bridge b).state = .faulted ∧ (s.supervise m.members (s.bridgeSet m.members)).1 ≠ .external then
      .bridgeFault else .abandoned) :
    s.derive m.members =
      { net := { m.placed (s.bridgeSet m.members) (s.supervise m.members (s.bridgeSet m.members)).1
            (s.supervise m.members (s.bridgeSet m.members)).2 s.uptime s.timing.quiet with
          lastResult := if m.inProgress then some (endingResult o s.uptime) else m.lastResult },
        released := some b, faultSpots := if m.inProgress ∧ o = .bridgeFault then m.covered else [], fresh := false } := by
  have derives := s.derive_derives m.members
  revert derives
  generalize s.derive m.members = d
  intro derives
  cases derives with
  | fresh new => exact absurd rfl (new m held)
  | kept m' held' members was' own usable =>
    rw [apart.unique_of_members held' held members] at usable
    obtain ⟨inside, working⟩ := usable b grant
    rcases loses with ⟨outside, -⟩ | ⟨-, faulted⟩ | notOwn
    exacts [absurd inside outside, absurd faulted working, absurd own notOwn]
  | changed m' held' members other =>
    rw [apart.unique_of_members held' held members] at other
    exact absurd was other
  | lost m' held' members was' o' ending interrupted unmeasurable =>
    obtain rfl := apart.unique_of_members held' held members
    have only (p : BridgeId → Prop) : (∃ c, m'.grant = some c ∧ p c) ↔ p b := by
      rw [grant]; simp
    rw [only] at ending interrupted unmeasurable
    have same : o' = o := by
      rw [ho]
      cases sup : (s.supervise m'.members (s.bridgeSet m'.members)).1 with
      | external =>
        rw [if_neg fun h => h.2 rfl]
        exact ending.resolve_right fun h => h.2.1 sup
      | none =>
        split
        · next fault => exact (unmeasurable sup).mpr fault.1
        · next working =>
          refine ending.resolve_right fun h => working ⟨h.2.2, by decide⟩
      | own =>
        rcases interrupted sup with ⟨outside, abandoned⟩ | ⟨inside, faulted, fault⟩
        · rcases loses with ⟨-, working⟩ | ⟨inside, -⟩ | notOwn
          · rw [if_neg fun h => working h.1, abandoned]
          · exact absurd inside outside
          · exact absurd sup notOwn
        · rw [if_pos ⟨faulted, by decide⟩, fault]
    rw [same, grant]

/-- A net of a component that a recompute does not leave is a former one. -/
theorem State.former_iff (apart : s.NetsApart) (m : Net) :
    m.members ∉ s.components ↔ ∀ n ∈ s.recompute.nets, n.members ≠ m.members := by
  refine ⟨fun former n held same => ?_, fun none_ comp => ?_⟩
  · obtain ⟨c, comp, rfl⟩ := (State.mem_recompute_nets apart n).mp held
    rw [State.outcome_members] at same
    exact former (same ▸ comp)
  · exact none_ _ ((State.mem_recompute_nets apart _).mpr ⟨_, comp, rfl⟩) (State.outcome_members _)

/-- A grant that a recompute takes from a carried net is one the held net had, and the net holds none after (R45). -/
theorem State.released_grant {c : List SegId} {b : BridgeId}
    (released : (s.derive c).released = some b) :
    ∃ m ∈ s.nets, m.members = c ∧ m.grant = some b ∧ (s.outcome c).grant = none := by
  have derives := s.derive_derives c
  cases grant : s.testGrant (s.derive c).net with
  | some b' =>
    obtain ⟨-, -, -, -, -, -, -, none_⟩ := derives.kept_of_grant grant
    rw [none_] at released
    cases released
  | none =>
    rw [State.outcome_of_none grant]
    clear grant
    revert derives released
    generalize s.derive c = d
    intro released derives
    cases derives with
    | fresh | kept | changed => cases released
    | lost m held members => exact ⟨m, held, members, released, rfl⟩

/-- The bridges of grants that all stay are commanded nothing, but for a new grant (R45, R81). -/
theorem State.bridge_recompute_of_stays (apart : s.NetsApart) {b : BridgeId}
    (stays : ∀ m ∈ s.nets, m.grant = some b → ∃ n ∈ s.recompute.nets, n.members = m.members ∧ n.grant = some b) :
    s.recompute.bridge b = s.bridge b ∨
      ((s.bridge b).state = .parked ∧ s.recompute.bridge b = (s.bridge b).closeP s.uptime ∧
        ∃ n ∈ s.recompute.nets, n.grant = some b) := by
  classical
  rw [State.bridge_recompute apart]
  split
  · next granted =>
    obtain ⟨c, comp, grant⟩ := granted
    refine .inr ⟨State.parked_of_testGrant grant, rfl, _, (State.mem_recompute_nets apart _).mpr ⟨c, comp, rfl⟩, ?_⟩
    rw [State.outcome_of_grant apart grant]
    rfl
  · refine .inl (if_neg ?_)
    rintro (⟨m, held, former, grant⟩ | ⟨c, comp, released⟩)
    · obtain ⟨n, heldN, same, -⟩ := stays m held grant
      exact (State.former_iff apart m).mp former n heldN same
    · obtain ⟨m, held, rfl, grant, lost⟩ := State.released_grant released
      obtain ⟨n, heldN, same, kept⟩ := stays m held grant
      obtain ⟨d, -, rfl⟩ := (State.mem_recompute_nets apart n).mp heldN
      rw [State.outcome_members] at same
      rw [same, lost] at kept
      cases kept

/-- A bridge whose grant is taken away, unless it is PARKED, is commanded to OPEN (R44, R45). -/
theorem State.bridge_recompute_of_taken (apart : s.NetsApart) {b : BridgeId} (taken : s.Taken b)
    (busy : (s.bridge b).state ≠ .parked) : s.recompute.bridge b = (s.bridge b).openSwitches s.uptime := by
  classical
  rw [State.bridge_recompute apart, if_neg, if_pos taken]
  rintro ⟨c, -, grant⟩
  exact busy (State.parked_of_testGrant grant)

/-- A covered spot that BRIDGE_FAULT answers (R92, R95). -/
theorem State.member_answered (apart : s.NetsApart) {c d : List SegId} (compD : d ∈ s.components) {x : SegId}
    (answers : x ∈ (s.derive d).faultSpots) (comp : c ∈ s.components) (mem : x ∈ c) {h : Segment}
    (after : s.recompute.seg x = some h) :
    h.spot = none ∧ h.lastSpot = some .bridgeFault ∧ h.pending &&& 0x02#8 ≠ 0#8 := by
  obtain ⟨g, before, -⟩ := (resolves_recompute s).exists_seg after
  have answered := State.faultAnswers_of_mem compD answers g
  rw [State.seg_recompute apart comp mem, before, Option.map_some, State.changeNotice_eq comp mem,
    Segment.settleIn_eq, Option.some.injEq] at after
  generalize (if ∃ m ∈ s.nets, m.members = c then 0x00#8 else 0x04#8) = change at after
  generalize (s.derive c).net.state = st at after
  generalize s.verdict c = v at after
  have spot : ((s.faultAnswers x g).raiseBits change).spot = none := by rw [answered]; rfl
  have lastSpot : ((s.faultAnswers x g).raiseBits change).lastSpot = some .bridgeFault := by rw [answered]; rfl
  have pending : ((s.faultAnswers x g).raiseBits change).pending = g.pending ||| 0x02#8 ||| change := by rw [answered]; rfl
  revert after spot lastSpot pending
  generalize (s.faultAnswers x g).raiseBits change = k
  intro after spot lastSpot pending
  have quiet : k.spotNotice st = 0x00#8 := by simp [Segment.spotNotice, spot]
  rw [quiet] at after
  subst after
  refine ⟨?_, ?_, ?_⟩
  · simp only [Segment.raiseBits, Segment.placedIn, spot, ite_self]
  · simp only [Segment.raiseBits, Segment.placedIn, quiet, lastSpot]
    rfl
  · change (k.pending ||| _) &&& 0x02#8 ≠ 0#8
    rw [pending, BitVec.or_assoc, BitVec.or_assoc, BitVec.or_comm g.pending, BitVec.or_assoc, BitVec.or_comm 0x02#8,
      or_and_same]
    decide

end Interrupted

/-- Settles O55. -/
theorem interruptedCycles : Obligations.InterruptedCycles := by
  unfold Obligations.InterruptedCycles
  rintro s t apart sound rfl
  refine ⟨fun m held b grant busy former => ?_, fun b stays => State.bridge_recompute_of_stays apart stays,
    fun m heldM n heldN b o same grant loses ho => ?_, fun m heldM n heldN same other => ?_,
    fun n held x mem g h own before after working => ?_⟩
  · exact State.bridge_recompute_of_taken apart (.inl ⟨m, held, (State.former_iff apart m).mpr former, grant⟩) busy
  · obtain ⟨c, comp, rfl⟩ := (State.mem_recompute_nets apart n).mp heldN
    rw [State.outcome_members] at same
    subst same
    have decided := State.outcome_supervision apart sound m.members
    have supervision := State.outcome_fst apart sound m.members
    have reason : (s.outcome m.members).reason = (s.supervise m.members (s.bridgeSet m.members)).2 :=
      congrArg Prod.snd decided
    rw [supervision] at loses ho
    have lost := State.derive_lost apart heldM ((sound m heldM).own_of_grant grant) grant loses ho
    have ended : s.outcome m.members = (s.derive m.members).net :=
      State.outcome_of_none (by
        rw [lost]
        exact State.testGrant_of_placed (m := m) (bs := s.bridgeSet m.members)
          (sup := (s.supervise m.members (s.bridgeSet m.members)).1)
          (r := (s.supervise m.members (s.bridgeSet m.members)).2) (q := s.timing.quiet) rfl rfl)
    refine ⟨fun busy => ?_, ?_, fun fault phase x covered h after => ?_⟩
    · exact State.bridge_recompute_of_taken apart (.inr ⟨_, comp, by rw [lost]⟩) busy
    · rw [supervision, reason, ended, lost]
      dsimp only
      congr 1
      exact if_congr m.inProgress_iff rfl rfl
    · obtain ⟨g, before, -⟩ := (resolves_recompute s).exists_seg after
      obtain ⟨c, compC, mem⟩ := State.exists_component (s := s) (x := x) (by rw [before]; rfl)
      refine State.member_answered apart comp ?_ compC mem after
      rw [lost]
      dsimp only
      rw [if_pos ⟨m.inProgress_iff.mpr phase, fault⟩]
      exact covered
  · obtain ⟨c, comp, rfl⟩ := (State.mem_recompute_nets apart n).mp heldN
    rw [State.outcome_members] at same
    subst same
    have decided := State.outcome_supervision apart sound m.members
    rw [State.outcome_changed apart heldM other]
    rfl
  · obtain ⟨c, comp, rfl⟩ := (State.mem_recompute_nets apart n).mp held
    rw [State.outcome_members] at mem
    obtain ⟨external, unmeasurable⟩ := (State.outcome_sound apart sound c).own_iff.mp own
    have record := State.member_unanswered apart sound comp mem before after working
    have quiet : g.spotNotice (s.outcome c).state = 0x00#8 := by simp [Segment.spotNotice, external, unmeasurable]
    rw [record]
    simp only [Segment.raiseBits, Segment.placedIn, quiet]
    exact ⟨rfl, rfl⟩

end Sys2Proof.Machine

/-! # Relations that every row of the table meets, and the ranges of a segment record (R2, R5, R11, R12, R15, R106, R129) -/

namespace Sys2Proof.Machine

/-! ## A relation over the rows -/

/-- `t` has the records of `s` that a law of the tables, the nets or the parameters reads. -/
structure SameRecords (s t : State) : Prop where
  segs : t.segs = s.segs
  links : t.links = s.links
  nets : t.nets = s.nets
  bridges : t.bridges = s.bridges
  aux : t.aux = s.aux
  timing : t.timing = s.timing

theorem sameRecords_refreshLines (s : State) : SameRecords s s.refreshLines :=
  ⟨by simp, by simp, by simp, by simp, by simp, by simp⟩

theorem sameRecords_closeFrame (s : State) (c : Byte) (r : Reply) (buf sent : List Byte) :
    SameRecords s (s.closeFrame c r buf sent) := by
  unfold State.closeFrame
  exact ⟨by simp, by simp, by simp, by simp, by simp, by simp⟩

/-- A relation between the states before and after a row: it composes, and an accepted frame, a taken event, a 1 ms event
and both sides of a reset meet it. -/
structure RowRelation (R : State → State → Prop) : Prop where
  trans : ∀ {s t u}, R s t → R t u → R s u
  same : ∀ {s t}, SameRecords s t → R s t
  accepts : ∀ {s t}, Accepts s t → R s t
  occurs : ∀ {s c due effect}, Occurs s c due effect → due = true → R s (effect s)
  tick : ∀ s raw, R s (s.tick raw)
  stop : ∀ s, R s s.stop
  afresh : ∀ s raw, R s (s.startAfresh raw)

section Rows

variable {R : State → State → Prop} (h : RowRelation R) {s t : State} {c : Instr}

include h

theorem RowRelation.closeFrame (r : R s t) (code : Byte) (reply : Reply) (buf sent : List Byte) :
    R s (t.closeFrame code reply buf sent) :=
  h.trans r (h.same (sameRecords_closeFrame t code reply buf sent))

theorem RowRelation.exec (next : exec c s = .next t) : R s t := by
  have still : R s s := h.same ⟨rfl, rfl, rfl, rfl, rfl, rfl⟩
  have raised : R s s.raiseChipSelect := h.same ⟨rfl, rfl, rfl, rfl, rfl, rfl⟩
  rcases instr_meaning c s with ⟨code, n, f, body, command⟩ | ⟨due, effect, event⟩ | own
  · rw [command.exec s] at next
    obtain rfl := Host.Outcome.next.inj next
    rcases s.riseWith_cases code n f body with ⟨-, rise⟩ | ⟨-, r, u, buf, sent, rise, answer⟩
    · rwa [rise]
    · rw [rise]
      refine h.closeFrame ?_ _ _ _ _
      rcases answer with answer | answer
      · rcases command.answers buf s with kept | ⟨-, accepted⟩
        · rw [← answer] at kept
          exact kept ▸ still
        · rw [← answer] at accepted
          exact h.accepts accepted
      · rw [(Prod.mk.inj answer).2]
        exact still
  · rw [event.exec] at next
    obtain rfl := Host.Outcome.next.inj next
    unfold State.event
    split
    · next taken =>
      exact h.trans (h.occurs event (Bool.and_eq_true_iff.mp taken).2) (h.same (sameRecords_refreshLines _))
    · exact still
  · cases own with
    | chipSelectFall =>
      obtain rfl := Host.Outcome.next.inj next
      unfold State.fallChipSelect
      split
      · split
        · exact h.same ⟨rfl, rfl, rfl, rfl, rfl, rfl⟩
        · exact h.same ⟨rfl, rfl, rfl, rfl, rfl, rfl⟩
      · exact still
    | unknownCommand code f =>
      simp only [Machine.exec, execUnknownCommand] at next
      split at next
      · obtain rfl := Host.Outcome.next.inj next
        rcases s.riseUnknown_cases code f with ⟨-, rise⟩ | ⟨-, _, _, _, _, rise, -⟩
        · rwa [rise]
        · rw [rise]; exact h.closeFrame still _ _ _ _
      · cases next
    | uptimeAdvance raw =>
      obtain rfl := Host.Outcome.next.inj next
      split
      · exact h.tick s raw
      · exact still
    | powerOnReset raw =>
      obtain rfl := Host.Outcome.next.inj next
      have valid : R s { s with supplyValid := true } := h.same ⟨rfl, rfl, rfl, rfl, rfl, rfl⟩
      split
      · exact h.trans valid (h.afresh _ raw)
      · exact valid
    | pinReset =>
      obtain rfl := Host.Outcome.next.inj next
      exact h.trans (h.same (t := { s with resetHigh := false }) ⟨rfl, rfl, rfl, rfl, rfl, rfl⟩) (h.stop _)
    | resetNRise raw =>
      obtain rfl := Host.Outcome.next.inj next
      have high : R s { s with resetHigh := true } := h.same ⟨rfl, rfl, rfl, rfl, rfl, rfl⟩
      split
      · exact still
      · split
        · exact h.trans high (h.afresh _ raw)
        · exact high
    | powerOnResetStart =>
      obtain rfl := Host.Outcome.next.inj next
      exact h.trans (h.same (t := { s with supplyValid := false }) ⟨rfl, rfl, rfl, rfl, rfl, rfl⟩) (h.stop _)

/-- Every step meets the relation. -/
theorem RowRelation.step (next : step s = .next t) : R s t := by
  rcases step_next next with rfl | ⟨c, rest, -, next⟩
  · exact h.same ⟨rfl, rfl, rfl, rfl, rfl, rfl⟩
  · exact h.trans (h.same (t := { s with pending := rest }) ⟨rfl, rfl, rfl, rfl, rfl, rfl⟩) (h.exec next)

end Rows

/-! ## The writes to a segment record -/

/-- `h` has the attachment of `g`, and its fields lie in their ranges if those of `g` do. -/
def Segment.Advances (g h : Segment) : Prop := h.bridge = g.bridge ∧ (g.Sound → h.Sound)

theorem Segment.Advances.refl (g : Segment) : g.Advances g := ⟨rfl, id⟩

theorem Segment.Advances.trans {g h k : Segment} (p : g.Advances h) (q : h.Advances k) : g.Advances k :=
  ⟨q.1.trans p.1, q.2 ∘ p.2⟩

theorem Segment.Kept.sound {g h : Segment} (kept : g.Kept h) (sound : g.Sound)
    (warn : h.alarm = .warn → warnComparator h.enables = true) : h.Sound := by
  rw [kept] at warn ⊢
  exact { sound with warn := warn }

theorem Segment.Kept.enables {g h : Segment} (kept : g.Kept h) : h.enables = g.enables := by rw [kept]

/-- A write of the net resolver advances a record unless it makes its alarm WARN. -/
theorem Segment.Kept.advances {g h : Segment} (kept : g.Kept h) (warn : h.alarm = .warn → g.alarm = .warn) :
    g.Advances h :=
  ⟨by rw [kept], fun sound => kept.sound sound fun isWarn => kept.enables ▸ sound.warn (warn isWarn)⟩

section Writes

variable (g : Segment)

theorem Segment.raise_advances (k : SegNotice) : g.Advances (g.raise k) :=
  (g.raise_kept k).kept.advances fun isWarn => by rwa [g.raise_alarm k] at isWarn

theorem Segment.answerSpot_advances (o : CycleOutcome) : g.Advances (g.answerSpot o) :=
  (g.answerSpot_kept o).advances id

theorem Segment.applyVerdict_advances (v : Verdict) : g.Advances (g.applyVerdict v) :=
  (g.applyVerdict_kept v).kept.advances fun isWarn => by
    rw [g.applyVerdict_alarm v] at isWarn
    cases v with
    | fault => cases isWarn
    | ok => dsimp only at isWarn; split at isWarn <;> cases isWarn

theorem Segment.settleIn_advances (st : NetState) (v : Verdict) : g.Advances (g.settleIn st v) := by
  refine (g.settleIn_kept st v).advances fun isWarn => ?_
  have alarm : (g.settleIn st v).alarm = g.settledAlarm st v := by rw [g.settleIn_eq]; rfl
  rw [alarm, Segment.settledAlarm] at isWarn
  split at isWarn
  · exact isWarn
  · split at isWarn
    · cases isWarn
    · split at isWarn <;> cases isWarn

/-- The table in force gives WARN only with the comparator enabled (R129). -/
theorem Segment.tableAlarm_warn (warn : g.tableAlarm = .warn) : warnComparator g.enables = true :=
  (g.tableAlarm_warn_iff.mp warn).1

theorem Segment.setAlarm_tableAlarm_sound (sound : g.Sound) : (g.setAlarm g.tableAlarm).Sound :=
  (g.setAlarm_kept _).kept.sound sound fun isWarn => by
    rw [g.setAlarm_alarm] at isWarn
    rw [(g.setAlarm_kept _).kept.enables]
    exact g.tableAlarm_warn isWarn

theorem Segment.evaluate_bridge : g.evaluate.bridge = g.bridge := by rw [g.evaluate_kept]

theorem Segment.evaluate_sound (sound : g.Sound) : g.evaluate.Sound := by
  unfold Segment.evaluate
  split
  · exact g.setAlarm_tableAlarm_sound sound
  · exact sound

theorem Segment.evaluate_advances : g.Advances g.evaluate := ⟨g.evaluate_bridge, g.evaluate_sound⟩

theorem Segment.clearNotices_advances : g.Advances g.clearNotices :=
  ⟨rfl, fun sound => { sound with }⟩

theorem Segment.requestSpot_advances (now : Uptime) : g.Advances (g.requestSpot now) :=
  ⟨rfl, fun sound => { sound with }⟩

theorem Segment.acknowledged_advances : g.Advances g.acknowledged := by
  unfold Segment.acknowledged
  split
  · exact (g.setAlarm_kept _).kept.advances fun isWarn => by rw [g.setAlarm_alarm] at isWarn; cases isWarn
  · exact ⟨by rw [g.setAlarm_kept g.tableAlarm], g.setAlarm_tableAlarm_sound⟩

/-- A change of the enables: an alarm of WARN does not outlive the comparator (R129, R130). -/
theorem Segment.setEnables_advances (e : BitVec 8) : g.Advances (g.setEnables e) := by
  have enabled (sound : g.Sound) (alarm : g.alarm = .warn → warnComparator e = true) :
      Segment.Sound { g with enables := e } := { sound with warn := alarm }
  unfold Segment.setEnables Segment.switchComparator
  dsimp only
  split
  · split
    · exact ⟨rfl, fun sound => { sound with warn := fun isWarn => nomatch isWarn }⟩
    · next other => exact ⟨rfl, fun sound => enabled sound fun isWarn => absurd isWarn other⟩
  · next before =>
    have stays (sound : g.Sound) (isWarn : g.alarm = .warn) : warnComparator e = true := by
      have was := sound.warn isWarn
      simpa [was] using before
    split
    · split
      · next clear =>
        refine ⟨Segment.evaluate_bridge _, fun sound => Segment.evaluate_sound _ (enabled sound (stays sound))⟩
      · exact ⟨rfl, fun sound => enabled sound (stays sound)⟩
    · exact ⟨rfl, fun sound => enabled sound (stays sound)⟩

theorem resistance_storable {c : Nat} (high : c ≤ 100000000) : 10 ≤ resistance c ∧ resistance c ≤ 100000 := by
  rcases Nat.lt_or_ge 10000 c with low | small
  · obtain ⟨least, most⟩ := resistance_range low high
    exact ⟨least, by omega⟩
  · rw [resistance_of_le small]
    decide

theorem Segment.restartMark_advances : g.Advances g.restartMark := by
  refine ⟨rfl, fun sound => { sound with lowMark := fun m mark => ?_ }⟩
  simp only [Segment.restartMark] at mark
  split at mark
  · obtain rfl := Option.some.inj mark
    exact resistance_storable (max_le sound.conductances.1 sound.conductances.2)
  · cases mark

/-- A record that goes stale has held values, so a quality (R12). -/
theorem Segment.goStale_advances (valued : g.quality ≠ .none) : g.Advances g.goStale :=
  Segment.Advances.trans (h := { g with stale := true, expiry := none })
    ⟨rfl, fun sound => { sound with unmeasured := fun none_ => absurd none_ valued, stale := fun _ => rfl }⟩
    (Segment.raise_advances _ _)

theorem Segment.Sound.valued {g : Segment} (sound : g.Sound) (held : g.expiry ≠ none) : g.quality ≠ .none :=
  fun none_ => held (sound.unmeasured none_).2.2.1

/-- An expiry that is due is one of a held moment. -/
theorem Segment.goStale_advances_of_held (held : g.expiry ≠ none) : g.Advances g.goStale :=
  ⟨rfl, fun sound => (g.goStale_advances (sound.valued held)).2 sound⟩

theorem Segment.reschedule_advances (now : Uptime) : g.Advances (g.reschedule now) := by
  unfold Segment.reschedule
  split
  · exact .refl g
  · next fresh =>
    rw [not_or] at fresh
    split
    · exact ⟨rfl, fun sound => { sound with
        unmeasured := fun none_ => absurd none_ fresh.1, stale := fun isStale => absurd isStale fresh.2 }⟩
    · exact g.goStale_advances fresh.1

/-- The clamped ranges of the declared properties (R2). -/
theorem Declared.clamp_ranges (d : Declared) :
    (100 ≤ d.clamp.vMax ∧ d.clamp.vMax ≤ 1500) ∧ (50 ≤ d.clamp.faultFactor ∧ d.clamp.faultFactor ≤ 2000) ∧
    (d.clamp.faultFactor ≤ d.clamp.warnFactor ∧ d.clamp.warnFactor ≤ 5000) ∧
    (1 ≤ d.clamp.validity ∧ d.clamp.validity ≤ 65535) := by
  simp only [Declared.clamp, clampTo]
  omega

theorem Segment.define_sound (d : Declared) (src : Source) (latch drive : Bool) (now : Uptime) :
    (Segment.define d.clamp src latch drive now).Sound := by
  obtain ⟨vMax, faultFactor, warnFactor, validity⟩ := d.clamp_ranges
  exact
    { vMax := vMax, faultFactor := faultFactor, warnFactor := warnFactor, validity := validity, thresholds := rfl,
      conductances := ⟨Nat.zero_le _, Nat.zero_le _⟩, unmeasured := fun _ => ⟨rfl, rfl, rfl, rfl⟩,
      stale := nofun, warn := nofun, lowMark := nofun }

theorem Segment.amend_advances (d : Declared) (src : Source) (latch drive : Bool) :
    g.Advances (g.amend d.clamp src latch drive) := by
  obtain ⟨vMax, faultFactor, warnFactor, validity⟩ := d.clamp_ranges
  unfold Segment.amend
  dsimp only
  split
  · next same =>
    obtain ⟨sameV, sameF, sameW⟩ := same
    exact ⟨rfl, fun sound => { sound with
      vMax := vMax, faultFactor := faultFactor, warnFactor := warnFactor, validity := validity,
      thresholds := by rw [sameV, sameF, sameW]; exact sound.thresholds }⟩
  · exact ⟨Segment.evaluate_bridge _, fun sound => Segment.evaluate_sound _ { sound with
      vMax := vMax, faultFactor := faultFactor, warnFactor := warnFactor, validity := validity, thresholds := rfl }⟩

/-! ## The writes of attribution -/

theorem Segment.refresh_sound (sound : g.Sound) (valued : g.quality ≠ .none) (now : Uptime) (dg : Bool) :
    (g.refresh now dg).Sound :=
  { sound with unmeasured := fun none_ => absurd none_ valued, stale := fun isStale => nomatch isStale }

theorem Segment.lowerMark_sound (sound : g.Sound) : g.lowerMark.Sound := by
  refine { sound with lowMark := fun m mark => ?_ }
  have reported := resistance_storable (max_le sound.conductances.1 sound.conductances.2)
  simp only [Segment.lowerMark, Option.some.injEq] at mark
  subst mark
  cases before : g.lowMark with
  | none => exact reported
  | some k =>
    have held := sound.lowMark k before
    exact ⟨le_min held.1 reported.1, (min_le_left _ _).trans held.2⟩

theorem Segment.writeValues_advances (now : Uptime) (dg : Bool) {q : Quality} (valued : q ≠ .none) {gp gn : Nat}
    (highP : gp ≤ 100000000) (highN : gn ≤ 100000000) : g.Advances (g.writeValues now dg q gp gn) := by
  have written (sound : g.Sound) : (({ g with gp := gp, gn := gn, quality := q } : Segment).refresh now dg).Sound :=
    { sound with
      conductances := ⟨highP, highN⟩, unmeasured := fun none_ => absurd none_ valued,
      stale := fun isStale => nomatch isStale }
  unfold Segment.writeValues
  refine ⟨?_, fun sound => Segment.evaluate_sound _ ?_⟩
  · rw [Segment.evaluate_bridge]
    split <;> rfl
  · split
    · exact Segment.lowerMark_sound _ (written sound)
    · exact written sound

theorem Segment.confirm_advances (valued : g.quality ≠ .none) (now : Uptime) (dg : Bool) : g.Advances (g.confirm now dg) :=
  ⟨Segment.evaluate_bridge _, fun sound => Segment.evaluate_sound _ (g.refresh_sound sound valued now dg)⟩

end Writes

section Attribution

variable {s : State} {ms : List SegId} {gp gn : Nat}

/-- A difference that a derivation writes is no larger than the net value. -/
theorem attributionCase_derived_le {u : SegId} {p n : Nat} (case : s.attributionCase ms gp gn = .derived u p n) :
    p ≤ gp ∧ n ≤ gn := by
  unfold State.attributionCase at case
  dsimp only at case
  split at case
  · cases case
  · split at case
    · split at case <;> cases case
    · split at case
      · cases case
        exact ⟨Nat.sub_le _ _, Nat.sub_le _ _⟩
      · cases case
    · cases case

/-- A confirmation needs every member known (R118). -/
theorem attributionCase_confirmation_known (case : s.attributionCase ms gp gn = .confirmation) :
    ∀ x ∈ ms, s.known x = true := by
  unfold State.attributionCase at case
  dsimp only at case
  split at case
  · cases case
  · split at case
    · next none_ => simpa [List.filter_eq_nil_iff] using none_
    · split at case <;> cases case
    · cases case

theorem SegsKept.mapSegs_of_held {r : Segment → Segment → Prop} (s : State) (f : SegId → Segment → Segment)
    (h : ∀ x g, s.seg x = some g → r g (f x g)) : SegsKept r s (s.mapSegs f) := by
  intro x
  rw [State.seg_mapSegs]
  cases held : s.seg x with
  | none => trivial
  | some g => exact h x g held

theorem attribute_advances (dg : Bool) (highP : gp ≤ 100000000) (highN : gn ≤ 100000000) :
    SegsKept Segment.Advances s (s.attribute ms dg gp gn) := by
  refine SegsKept.mapSegs_of_held s _ fun x g held => ?_
  split
  · next mem =>
    have mem : x ∈ ms := List.contains_iff_mem.mp mem
    cases case : s.attributionCase ms gp gn with
    | direct => exact g.writeValues_advances _ _ (by decide) highP highN
    | derived u p n =>
      obtain ⟨leP, leN⟩ := attributionCase_derived_le case
      simp only [AttributionCase.write]
      split
      · exact g.writeValues_advances _ _ (by decide) (leP.trans highP) (leN.trans highN)
      · exact .refl g
    | confirmation =>
      have known := attributionCase_confirmation_known case x mem
      obtain ⟨k, heldK, quality, -⟩ := (s.known_iff x).mp known
      obtain rfl := Option.some.inj (held.symm.trans heldK)
      exact g.confirm_advances (by rcases quality with q | q <;> rw [q] <;> decide) _ _
    | shared =>
      simp only [AttributionCase.write]
      split
      · exact .refl g
      · exact g.writeValues_advances _ _ (by decide) highP highN
    | inconsistent =>
      exact (g.writeValues_advances _ _ (by decide) highP highN).trans (Segment.raise_advances _ _)
  · exact .refl g

/-- The conductances of a calculation are storable (R106). -/
theorem calculate_storable (g : References) (limit : Nat) (p n : PhaseValues) :
    (calculate g limit p n).gp.getD 0 ≤ 100000000 ∧ (calculate g limit p n).gn.getD 0 ≤ 100000000 := by
  unfold calculate
  dsimp only
  split
  · decide
  · split
    · exact ⟨Nat.zero_le _, Nat.zero_le _⟩
    · split
      · exact ⟨Nat.zero_le _, Nat.zero_le _⟩
      · split
        · exact ⟨Nat.zero_le _, Nat.zero_le _⟩
        · exact ⟨min_le_left _ _, min_le_left _ _⟩

end Attribution

end Sys2Proof.Machine

/-! # What every row keeps of the tables and the ranges (R2, R23, R25, R32, R33, R76, R166) -/

namespace Sys2Proof.Machine

/-! ## Work on segments, nets and bridges -/

/-- `t` has the links, the filters, the timing and the attachments of `s`, and its segment records are advanced. -/
structure Measures (s t : State) : Prop where
  links : t.links = s.links
  aux : t.aux = s.aux
  timing : t.timing = s.timing
  segs : SegsKept Segment.Advances s t
  attached : ∀ b, (t.bridge b).attached = (s.bridge b).attached

theorem Measures.trans {s t u : State} (p : Measures s t) (q : Measures t u) : Measures s u :=
  ⟨q.links.trans p.links, q.aux.trans p.aux, q.timing.trans p.timing,
    SegsKept.trans (r := Segment.Advances) (fun _ _ _ => Segment.Advances.trans) p.segs q.segs,
    fun b => (q.attached b).trans (p.attached b)⟩

theorem segsKept_of_segs {s t : State} (segs : t.segs = s.segs) : SegsKept Segment.Advances s t :=
  SegsKept.of_seg_eq (r := Segment.Advances) Segment.Advances.refl fun x => by rw [State.seg, segs, State.seg]

theorem SameRecords.measures {s t : State} (h : SameRecords s t) : Measures s t :=
  ⟨h.links, h.aux, h.timing, segsKept_of_segs h.segs, fun b => by rw [State.bridge, h.bridges, State.bridge]⟩

theorem Measures.refl (s : State) : Measures s s := SameRecords.measures ⟨rfl, rfl, rfl, rfl, rfl, rfl⟩

/-- Work of the net resolver that advances the segment records. -/
theorem Resolves.measures {s t : State} (h : Resolves s t) (segs : SegsKept Segment.Advances s t) : Measures s t := by
  obtain ⟨-, -, -, -, links, aux, -, timing, -⟩ := h.fields
  exact ⟨links, aux, timing, segs, fun b => by rw [h.bridges b]⟩

section Operations

variable (s : State)

theorem segsKept_setSeg {r : Segment → Segment → Prop} (refl : ∀ g, r g g) {x : SegId} {g h : Segment}
    (held : s.seg x = some g) (adv : r g h) : SegsKept r s (s.setSeg x (some h)) := by
  intro y
  rw [State.seg_setSeg]
  by_cases same : x = y
  · subst same; rw [held, if_pos rfl]; exact adv
  · rw [if_neg same]
    cases s.seg y with
    | none => trivial
    | some k => exact refl k

theorem segsKept_modSeg {r : Segment → Segment → Prop} (refl : ∀ g, r g g) {x : SegId} {f : Segment → Segment}
    (adv : ∀ g, s.seg x = some g → r g (f g)) : SegsKept r s (s.modSeg x f) := by
  intro y
  rw [State.seg_modSeg]
  by_cases same : x = y
  · subst same
    rw [if_pos rfl]
    cases held : s.seg x with
    | none => trivial
    | some g => exact adv g held
  · rw [if_neg same]
    cases s.seg y with
    | none => trivial
    | some k => exact refl k

theorem measures_setSeg {x : SegId} {g h : Segment} (held : s.seg x = some g) (adv : g.Advances h) :
    Measures s (s.setSeg x (some h)) :=
  ⟨rfl, rfl, rfl, segsKept_setSeg s (r := Segment.Advances) .refl held adv, fun _ => rfl⟩

theorem measures_modSeg {x : SegId} {f : Segment → Segment} (adv : ∀ g, s.seg x = some g → g.Advances (f g)) :
    Measures s (s.modSeg x f) :=
  ⟨rfl, rfl, rfl, segsKept_modSeg s (r := Segment.Advances) .refl adv, fun _ => rfl⟩

theorem measures_mapSegs {f : SegId → Segment → Segment} (adv : ∀ x (g : Segment), g.Advances (f x g)) :
    Measures s (s.mapSegs f) :=
  ⟨s.mapSegs_links f, s.mapSegs_aux f, s.mapSegs_timing f, SegsKept.mapSegs (r := Segment.Advances) s f adv,
    fun b => by rw [State.bridge_mapSegs]⟩

theorem measures_modNet (a : SegId) (f : Net → Net) : Measures s (s.modNet a f) :=
  ⟨rfl, rfl, rfl, segsKept_of_segs rfl, fun _ => rfl⟩

theorem measures_modBridge (b : BridgeId) {f : Bridge → Bridge} (kept : (f (s.bridge b)).attached = (s.bridge b).attached) :
    Measures s (s.modBridge b f) := by
  refine ⟨rfl, rfl, rfl, segsKept_of_segs rfl, fun c => ?_⟩
  rw [State.bridge_modBridge]
  split
  · next same => rw [← same]; exact kept
  · rfl

theorem State.startCycle_segs (a : SegId) : (s.startCycle a).segs = s.segs := by
  unfold State.startCycle
  split
  · rfl
  · split <;> rfl

theorem State.testWaiting_segs (a : SegId) : (s.testWaiting a).segs = s.segs := by
  unfold State.testWaiting
  split
  · rfl
  · split
    · exact s.startCycle_segs a
    · rfl

theorem State.endRelease_segs (a : SegId) : (s.endRelease a).segs = s.segs := by
  unfold State.endRelease
  dsimp only
  split
  · rfl
  · split
    · rw [State.startCycle_segs]; rfl
    · rfl

theorem State.reportParked_segs (b : BridgeId) : (s.reportParked b).segs = s.segs := by
  unfold State.reportParked
  split
  · rfl
  · split
    · exact s.endRelease_segs _
    · exact s.testWaiting_segs _

theorem measures_startCycle (a : SegId) : Measures s (s.startCycle a) :=
  (resolves_startCycle s a).measures (segsKept_of_segs (s.startCycle_segs a))

theorem measures_testWaiting (a : SegId) : Measures s (s.testWaiting a) :=
  (resolves_testWaiting s a).measures (segsKept_of_segs (s.testWaiting_segs a))

/-- The tests that end a recompute write no segment. -/
theorem State.recompute_segs_settled : s.recompute.segs = s.settled.segs := by
  rw [s.recompute_eq_tests]
  induction s.carriedAnchors generalizing s with
  | nil => rfl
  | cons a as ih =>
    have tests (t : State) (as : List SegId) : (as.foldl State.testWaiting t).segs = t.segs := by
      induction as generalizing t with
      | nil => rfl
      | cons b bs ihb => rw [List.foldl_cons, ihb, State.testWaiting_segs]
    exact tests _ _

theorem faultAnswers_advances (x : SegId) (g : Segment) : g.Advances (s.faultAnswers x g) := by
  unfold State.faultAnswers
  induction s.derivedNets generalizing g with
  | nil => exact .refl g
  | cons d ds ih =>
    rw [List.foldl_cons]
    refine Segment.Advances.trans ?_ (ih _)
    split
    · exact g.answerSpot_advances _
    · exact .refl g

theorem changeNotice_advances (x : SegId) (g : Segment) : g.Advances (s.changeNotice x g) := by
  unfold State.changeNotice
  split
  · exact g.raise_advances _
  · exact .refl g

theorem measures_recompute : Measures s s.recompute := by
  refine (resolves_recompute s).measures fun x => ?_
  rw [State.seg, State.seg, s.recompute_segs_settled]
  change match s.seg x, s.settled.seg x with | some g, some h => g.Advances h | none, none => True | _, _ => False
  rw [State.settled, State.settleSegments, State.seg_mapSegs, s.seg_replaceNets]
  cases s.seg x with
  | none => trivial
  | some g =>
    refine ((faultAnswers_advances s x g).trans (changeNotice_advances s x _)).trans ?_
    dsimp only
    split
    · exact Segment.settleIn_advances _ _ _
    · exact .refl _

theorem measures_endPhase (n : Net) (unsettled : Bool) : Measures s (s.endPhase n unsettled) := by
  unfold State.endPhase
  split
  · exact (measures_modNet s _ _).trans (measures_modBridge _ _ (by rw [Bridge.cross_kept]))
  · next b _ _ =>
    split
    · next p g _ _ =>
      obtain ⟨highP, highN⟩ := calculate_storable g s.timing.lowVoltage p (phaseValues n.window unsettled)
      unfold State.complete
      dsimp only
      refine .trans ?_ (measures_mapSegs _ fun x h => ?_)
      · have opened := (measures_modBridge s b (f := (·.openSwitches s.uptime))
          (Bridge.openSwitches_attached (s.bridge b) s.uptime)).trans (measures_modNet _ n.anchor
            (·.completed ((calculate g s.timing.lowVoltage p (phaseValues n.window unsettled)).toResult s.uptime)))
        split
        · refine opened.trans ⟨State.mapSegs_links _ _, State.mapSegs_aux _ _, State.mapSegs_timing _ _,
            attribute_advances _ highP highN, fun c => ?_⟩
          rw [State.attribute, State.bridge_mapSegs]
        · exact opened
      · split
        · exact h.answerSpot_advances _
        · exact .refl h
    · exact .refl s
  · exact .refl s

theorem measures_handSample (b : BridgeId) (x : Sample) : Measures s (s.handSample b x) := by
  unfold State.handSample
  split
  · exact .refl s
  · split
    · exact .refl s
    · dsimp only
      split
      · split
        · exact (measures_modNet s _ _).trans (measures_endPhase _ _ _)
        · exact measures_modNet s _ _
      · exact .refl s

theorem measures_sampleBridge (b : BridgeId) (p n : BitVec 16) : Measures s (s.sampleBridge b p n) := by
  unfold State.sampleBridge
  dsimp only
  split
  · exact (measures_modBridge s b rfl).trans (measures_handSample _ _ _)
  · exact measures_modBridge s b rfl

theorem measures_reportConfirmation (b : BridgeId) : Measures s (s.reportConfirmation b) := by
  unfold State.reportConfirmation
  split
  · exact .refl s
  · split
    · exact measures_modNet s _ _
    · exact .refl s

theorem measures_confirmOpen (b : BridgeId) : Measures s (s.confirmOpen b) := by
  unfold State.confirmOpen
  split
  · exact measures_modBridge s b rfl
  · exact (measures_modBridge s b rfl).trans ((resolves_reportParked _ b).measures (segsKept_of_segs (State.reportParked_segs _ b)))

theorem measures_faultBridge (b : BridgeId) (c : FaultCause) : Measures s (s.faultBridge b c) :=
  have faulted := measures_modBridge s b (f := (·.enterFaulted c s.uptime)) rfl
  have raised : Measures (s.modBridge b (·.enterFaulted c s.uptime))
      ((s.modBridge b (·.enterFaulted c s.uptime)).raiseDevice .bridgeFault) :=
    ⟨rfl, rfl, rfl, segsKept_of_segs rfl, fun _ => rfl⟩
  (faulted.trans raised).trans (measures_recompute _)

theorem measures_amend {x : SegId} {g : Segment} (held : s.seg x = some g) (d : Declared) (src : Source)
    (latch drive : Bool) : Measures s (s.amend x g d.clamp src latch drive) := by
  have record := measures_setSeg s held (g.amend_advances d src latch drive)
  have sourced : Measures s (if src = g.source then s.setSeg x (some (g.amend d.clamp src latch drive))
      else (s.setSeg x (some (g.amend d.clamp src latch drive))).recompute) := by
    split
    · exact record
    · exact record.trans (measures_recompute _)
  unfold State.amend
  dsimp only
  split
  · exact sourced
  · exact sourced.trans (measures_modSeg _ fun h _ => h.reschedule_advances _)

theorem Bridge.sense_attached (b : Bridge) (p n : Bool) : (b.sense p n).attached = b.attached := by
  rw [b.sense_kept p n]

/-- A 1 ms event writes run counts and senses, no link, attachment or level. -/
theorem measures_tick_but_aux (raw : RawLevels) :
    (s.tick raw).links = s.links ∧ (s.tick raw).timing = s.timing ∧ SegsKept Segment.Advances s (s.tick raw) ∧
    (∀ b, ((s.tick raw).bridge b).attached = (s.bridge b).attached) ∧
    ∀ a : AuxLine, ((s.tick raw).aux[a]).level = (s.aux[a]).level := by
  refine ⟨rfl, rfl, segsKept_of_segs rfl, fun b => ?_, fun a => ?_⟩
  · rw [State.bridge_ofFn (t := s.tick raw) rfl b]
    exact Bridge.sense_attached _ _ _
  · simp only [State.tick, Fin.getElem_fin, Vector.getElem_ofFn, Filter.sample]
    split <;> rfl

end Operations

/-- The events that change no link and no filter of an AUX line. -/
theorem Occurs.measures {s : State} {c : Instr} {due : Bool} {effect : State → State} (h : Occurs s c due effect)
    (isDue : due = true) : Measures s (effect s) ∨ (∃ i, effect = (·.changeAux i)) ∨
      ∃ i, effect = (·.flagDisagreement i) ∧ (s.link i).any (fun l => l.windowOver s.uptime s.timing.agreement) = true := by
  cases h with
  | filteredChangeAux i => exact .inr (.inl ⟨i, rfl⟩)
  | agreementWindowExpiry i => exact .inr (.inr ⟨i, rfl, isDue⟩)
  | filteredChangeExt i =>
    have level : Measures s { s with ext := s.ext.set i (s.ext[i]).change } :=
      ⟨rfl, rfl, rfl, segsKept_of_segs rfl, fun _ => rfl⟩
    refine .inl (level.trans (measures_mapSegs _ fun x g => ?_))
    split
    · split
      · exact g.applyVerdict_advances _
      · exact .refl g
    · exact .refl g
  | expiry x =>
    refine .inl (measures_modSeg s fun g held => g.goStale_advances_of_held ?_)
    simp only [held, Option.any_some, Segment.expiryReached] at isDue
    intro none_
    rw [none_] at isDue
    cases isDue
  | sampleEvent b p n => exact .inl (measures_sampleBridge s b p n)
  | dwellTimerExpiry a =>
    refine .inl ?_
    dsimp only [State.takeDwell]
    split
    · exact measures_modBridge s _ (by unfold Bridge.endDwell; split <;> rfl)
    · exact .refl s
  | maxDwellTimerExpiry a =>
    refine .inl ?_
    dsimp only [State.takeMaxDwell]
    split
    · exact measures_endPhase s _ _
    · exact .refl s
  | quietTimerExpiry a => exact .inl ((measures_modNet s _ _).trans (measures_testWaiting _ a))
  | spacingExpiry a => exact .inl (measures_startCycle s a)
  | closeConfirmation b => exact .inl ((measures_modBridge s b rfl).trans (measures_reportConfirmation _ b))
  | openConfirmation b => exact .inl (measures_confirmOpen s b)
  | closeTimeout | openTimeout | senseDropout | stuckOppositeSense | stuckInParked | stuckEscalation =>
    exact .inl (measures_faultBridge s _ _)

end Sys2Proof.Machine

/-! # The tables after every step (R23, R76) -/

namespace Sys2Proof.Machine

/-! ## A part whose tables a reset has cleared -/

/-- No segment, link or net is held, the timing has its defaults, and every bridge is the one given (R21, R38, R60, R79). -/
structure State.Cleared (t : State) (f : BridgeId → Bridge) : Prop where
  free : ∀ x, t.seg x = none
  noLink : ∀ i, t.link i = none
  noNet : t.nets = []
  timing : t.timing = Timing.reset
  bridge : ∀ b, t.bridge b = f b

theorem State.cleared_resetNotices {t u : State} {f : BridgeId → Bridge} (h : u.Cleared f)
    (records : t.records = u.resetNotices.records) : t.Cleared f := by
  obtain ⟨-, -, -, -, segs, links, nets, bridges, -, -, timing, -⟩ := fields_of_resetNotices records
  exact ⟨fun x => by rw [State.seg, segs]; exact h.free x, fun i => by rw [State.link, links]; exact h.noLink i,
    nets.trans h.noNet, timing.trans h.timing, fun b => by rw [State.bridge, bridges]; exact h.bridge b⟩

theorem State.cleared_startAfresh (s : State) (raw : RawContacts) :
    (s.startAfresh raw).Cleared fun b => (s.bridge b).powerUp := by
  refine State.cleared_resetNotices ?_ (by rw [State.startAfresh, State.records_refreshLines])
  exact ⟨s.seg_clearRecords raw, s.link_clearRecords raw, rfl, rfl, fun b => State.bridge_ofFn (f := fun b => (s.bridge b).powerUp) rfl b⟩

theorem State.cleared_restart (s : State) (raw : RawContacts) :
    (s.restart raw).Cleared fun b => (s.bridge b).restart s.uptime := by
  refine State.cleared_resetNotices ?_ rfl
  exact ⟨s.seg_clearRecords raw, s.link_clearRecords raw, rfl, rfl,
    fun b => State.bridge_ofFn (f := fun b => (s.bridge b).restart s.uptime) rfl b⟩

/-! ## The tables -/

/-- `t` keeps that links join DEFINED segments and that attachments agree, if `s` does. -/
def TablesAgree (s t : State) : Prop :=
  s.LinksJoinSegments → s.AttachmentsAgree → t.LinksJoinSegments ∧ t.AttachmentsAgree

theorem TablesAgree.trans {s t u : State} (p : TablesAgree s t) (q : TablesAgree t u) : TablesAgree s u := by
  intro joins agree
  obtain ⟨joins, agree⟩ := p joins agree
  exact q joins agree

/-- Both laws read the ends of links, which segments are DEFINED, and the two sides of attachments. -/
theorem tablesAgree_of_kept {s t : State}
    (ends : ∀ i l, t.link i = some l → ∃ k, s.link i = some k ∧ k.endA = l.endA ∧ k.endB = l.endB)
    (segs : SegsKept Segment.Advances s t) (attached : ∀ b, (t.bridge b).attached = (s.bridge b).attached) :
    TablesAgree s t := by
  intro joins agree
  refine ⟨fun i l held => ?_, fun b x => ?_⟩
  · obtain ⟨k, before, endA, endB⟩ := ends i l held
    rw [segs.isSome, segs.isSome, ← endA, ← endB]
    exact joins i k before
  · rw [attached, agree b x]
    have kept := segs x
    revert kept
    cases s.seg x <;> cases t.seg x <;> intro kept
    · exact .rfl
    · exact kept.elim
    · exact kept.elim
    · obtain ⟨bridge, -⟩ := kept
      simp [bridge]

theorem Measures.tablesAgree {s t : State} (h : Measures s t) : TablesAgree s t :=
  tablesAgree_of_kept (fun i l held => ⟨l, by rwa [State.link, ← h.links], rfl, rfl⟩) h.segs h.attached

theorem State.Cleared.tablesAgree {s t : State} {f : BridgeId → Bridge} (h : t.Cleared f)
    (detached : ∀ b, (f b).attached = none) : TablesAgree s t := by
  refine fun _ _ => ⟨fun i l held => ?_, fun b x => ?_⟩
  · rw [h.noLink i] at held; cases held
  · rw [h.bridge b, detached b, h.free x]; simp

/-! ## A filtered change of an AUX line, before its recompute (R32) -/

/-- The filter takes its raw level, and the links on the line follow. -/
def State.turnAux (s : State) (i : AuxLine) : State :=
  { s with aux := s.aux.set i (s.aux[i]).change }.followLinks i (s.aux[i]).change.level

theorem State.changeAux_eq (s : State) (i : AuxLine) :
    s.changeAux i = if effectiveChanged s (s.turnAux i) then (s.turnAux i).recompute else s.turnAux i := rfl

theorem State.turnAux_but_lines (s : State) (i : AuxLine) :
    s.turnAux i = { s with links := (s.turnAux i).links, aux := (s.turnAux i).aux } := by
  simp only [State.turnAux, State.followLinks]

theorem State.segs_turnAux (s : State) (i : AuxLine) : (s.turnAux i).segs = s.segs := by rw [s.turnAux_but_lines]

theorem State.bridge_turnAux (s : State) (i : AuxLine) (b : BridgeId) : (s.turnAux i).bridge b = s.bridge b := by
  have bridges : (s.turnAux i).bridges = s.bridges := by rw [s.turnAux_but_lines]
  rw [State.bridge, bridges, State.bridge]

theorem State.link_turnAux (s : State) (i : AuxLine) (j : LinkId) :
    (s.turnAux i).link j = (s.link j).map (·.follow i (s.aux[i]).change.level s.uptime) := by
  rw [State.turnAux, State.link_followLinks]
  rfl

theorem State.level_turnAux (s : State) (i a : AuxLine) :
    ((s.turnAux i).aux[a]).level = if a = i then (s.aux[i]).change.level else (s.aux[a]).level := by
  have aux : (s.turnAux i).aux = s.aux.set i (s.aux[i]).change := by simp only [State.turnAux, State.followLinks]
  by_cases here : a = i
  · subst here; simp [aux]
  · have apart : (i : Nat) ≠ a := fun same => here (Fin.ext same.symm)
    simp [aux, apart, here]

theorem Link.judge_ends (l : Link) (now : Uptime) : (l.judge now).endA = l.endA ∧ (l.judge now).endB = l.endB := by
  unfold Link.judge
  split
  · split <;> exact ⟨rfl, rfl⟩
  · exact ⟨rfl, rfl⟩

theorem Link.follow_ends (l : Link) (line : AuxLine) (high : Bool) (now : Uptime) :
    (l.follow line high now).endA = l.endA ∧ (l.follow line high now).endB = l.endB := by
  unfold Link.follow
  split
  · split
    · exact Link.judge_ends _ now
    · exact ⟨rfl, rfl⟩
  · exact ⟨rfl, rfl⟩

section Tables

variable (s : State)

theorem tablesAgree_setLink {i : LinkId} {r : Option Link}
    (ends : ∀ l, r = some l → (s.seg l.endA).isSome ∧ (s.seg l.endB).isSome ∧ l.endA ≠ l.endB) :
    TablesAgree s (s.setLink i r) := by
  refine fun joins agree => ⟨fun j l held => ?_, agree⟩
  rw [State.link_setLink] at held
  split at held
  · exact ends l held
  · exact joins j l held

theorem tablesAgree_relink {i : LinkId} {r : Option Link} (event : Bool) (set : TablesAgree s (s.setLink i r)) :
    TablesAgree s (s.relink i r event) := by
  unfold State.relink
  split
  · exact set.trans (measures_recompute _).tablesAgree
  · exact set

theorem tablesAgree_define {x : SegId} {g : Segment} (free : s.seg x = none) (unattached : g.bridge = none) :
    TablesAgree s (s.setSeg x (some g)) := by
  refine fun joins agree => ⟨fun i l held => ?_, fun b y => ?_⟩
  · obtain ⟨endA, endB, distinct⟩ := joins i l held
    have defined (z : SegId) (was : (s.seg z).isSome) : ((s.setSeg x (some g)).seg z).isSome := by
      rw [State.seg_setSeg]; split <;> simp [was]
    exact ⟨defined _ endA, defined _ endB, distinct⟩
  · rw [State.bridge_setSeg, agree b y, State.seg_setSeg]
    by_cases same : x = y
    · subst same; simp [free, unattached]
    · rw [if_neg same]

/-- A record that no link names is freed with both sides of its attachment (R18). -/
theorem tablesAgree_retire {x : SegId} {g : Segment} (held : s.seg x = some g) (unlinked : s.linked x = false) :
    TablesAgree s ((s.detachHeld g.bridge).setSeg x none) := by
  intro joins agree
  have links (i : LinkId) : ((s.detachHeld g.bridge).setSeg x none).link i = s.link i := by
    cases g.bridge <;> rfl
  have segs (y : SegId) : (s.detachHeld g.bridge).seg y = s.seg y := by cases g.bridge <;> rfl
  have bridges (b : BridgeId) : ((s.detachHeld g.bridge).bridge b).attached =
      if g.bridge = some b then none else (s.bridge b).attached := by
    cases bridge : g.bridge with
    | none => rfl
    | some c =>
      simp only [State.detachHeld, State.detach, State.bridge_modBridge, Option.some.injEq]
      split <;> rfl
  refine ⟨fun i l heldL => ?_, fun b y => ?_⟩
  · rw [links] at heldL
    obtain ⟨endA, endB, distinct⟩ := joins i l heldL
    have apart : ¬ (l.endA = x ∨ l.endB = x) := fun meets => by
      rw [(s.linked_iff x).mpr ⟨i, l, heldL, meets⟩] at unlinked
      cases unlinked
    rw [not_or] at apart
    rw [State.seg_setSeg, State.seg_setSeg, if_neg (Ne.symm apart.1), if_neg (Ne.symm apart.2), segs, segs]
    exact ⟨endA, endB, distinct⟩
  · have mine (c : BridgeId) : (s.bridge c).attached = some x ↔ g.bridge = some c := by rw [agree c x, held]; simp
    rw [State.bridge_setSeg, bridges, State.seg_setSeg, segs]
    by_cases same : x = y
    · subst same
      rw [if_pos rfl]
      split
      · simp
      · next other => simp [mt (mine b).mp other]
    · rw [if_neg same]
      split
      · next own =>
        have there := (mine b).mpr own
        rw [← agree b y, there]
        simp [same]
      · exact agree b y

theorem tablesAgree_attach {b : BridgeId} {x : SegId} {g : Segment} (held : s.seg x = some g)
    (freeBridge : (s.bridge b).attached = none) (freeSegment : g.bridge = none) : TablesAgree s (s.attach b x) := by
  intro joins agree
  have seg (y : SegId) : (s.attach b x).seg y = if x = y then some { g with bridge := some b } else s.seg y := by
    rw [State.attach, State.seg_modSeg, State.seg_modBridge, State.seg_modBridge, held]; rfl
  refine ⟨fun i l heldL => ?_, fun c y => ?_⟩
  · obtain ⟨endA, endB, distinct⟩ := joins i l heldL
    have defined (z : SegId) (was : (s.seg z).isSome) : ((s.attach b x).seg z).isSome := by
      rw [seg]; split <;> simp [was]
    exact ⟨defined _ endA, defined _ endB, distinct⟩
  · have bridge : ((s.attach b x).bridge c).attached = if b = c then some x else (s.bridge c).attached := by
      rw [State.attach, State.bridge_modSeg, State.bridge_modBridge]; split <;> rfl
    rw [bridge, seg]
    by_cases sameB : b = c <;> by_cases sameX : x = y
    · simp [sameB, sameX]
    · subst sameB
      have other := agree b y
      rw [freeBridge] at other
      rw [if_pos rfl, if_neg sameX, ← other]
      simp [sameX]
    · subst sameX
      have other := agree c x
      rw [held] at other
      rw [if_neg sameB, if_pos rfl, other]
      simp [freeSegment, sameB]
    · rw [if_neg sameB, if_neg sameX]
      exact agree c y

theorem tablesAgree_unattach {b : BridgeId} {x : SegId} (attached : (s.bridge b).attached = some x) :
    TablesAgree s (s.unattach b x) := by
  intro joins agree
  obtain ⟨g, held, bridge⟩ := (agree b x).mp attached
  have seg (y : SegId) : (s.unattach b x).seg y = if x = y then some { g with bridge := none } else s.seg y := by
    rw [State.unattach, State.seg_modSeg, State.seg_modBridge, State.seg_modBridge, held]; rfl
  refine ⟨fun i l heldL => ?_, fun c y => ?_⟩
  · obtain ⟨endA, endB, distinct⟩ := joins i l heldL
    have defined (z : SegId) (was : (s.seg z).isSome) : ((s.unattach b x).seg z).isSome := by
      rw [seg]; split <;> simp [was]
    exact ⟨defined _ endA, defined _ endB, distinct⟩
  · have bridgeOf : ((s.unattach b x).bridge c).attached = if b = c then none else (s.bridge c).attached := by
      rw [State.unattach, State.bridge_modSeg, State.bridge_modBridge]; split <;> rfl
    rw [bridgeOf, seg]
    by_cases sameB : b = c <;> by_cases sameX : x = y
    · simp [sameB, sameX]
    · subst sameB
      have other := agree b y
      rw [attached] at other
      rw [if_pos rfl, if_neg sameX, ← other]
      simp [sameX]
    · subst sameX
      have other := agree c x
      rw [held] at other
      rw [if_neg sameB, if_pos rfl, other]
      simp [bridge, sameB]
    · rw [if_neg sameB, if_neg sameX]
      exact agree c y

theorem tablesAgree_changeAux (i : AuxLine) : TablesAgree s (s.changeAux i) := by
  have turned : TablesAgree s (s.turnAux i) := by
    refine tablesAgree_of_kept (fun j l held => ?_) (segsKept_of_segs (s.segs_turnAux i)) fun b => by
      rw [s.bridge_turnAux]
    rw [s.link_turnAux] at held
    obtain ⟨k, before, rfl⟩ := Option.map_eq_some_iff.mp held
    obtain ⟨endA, endB⟩ := k.follow_ends i (s.aux[i]).change.level s.uptime
    exact ⟨k, before, endA.symm, endB.symm⟩
  rw [s.changeAux_eq]
  split
  · exact turned.trans (measures_recompute _).tablesAgree
  · exact turned

theorem tablesAgree_flagDisagreement (i : LinkId) : TablesAgree s (s.flagDisagreement i) := by
  refine tablesAgree_of_kept (fun j l held => ?_) (segsKept_of_segs rfl) fun _ => rfl
  rw [State.flagDisagreement, State.link_raiseDevice, State.link_setLink] at held
  split at held
  · next same =>
    obtain ⟨k, before, rfl⟩ := Option.map_eq_some_iff.mp held
    exact ⟨k, same ▸ before, rfl, rfl⟩
  · exact ⟨l, held, rfl, rfl⟩

end Tables

theorem Accepts.tablesAgree {s t : State} (h : Accepts s t) : TablesAgree s t := by
  cases h with
  | clearNotices x g held => exact (measures_setSeg s held g.clearNotices_advances).tablesAgree
  | clearAllNotices => exact (measures_mapSegs s fun _ g => g.clearNotices_advances).tablesAgree
  | clearDeviceNotices | setDeviceEnables | setTiming =>
    exact tablesAgree_of_kept (fun i l held => ⟨l, held, rfl, rfl⟩) (segsKept_of_segs rfl) fun _ => rfl
  | setEnables x g e held => exact (measures_setSeg s held (g.setEnables_advances e)).tablesAgree
  | setAllEnables f8 => exact (measures_mapSegs s fun _ g => g.setEnables_advances _).tablesAgree
  | restart raw => exact (s.cleared_restart raw).tablesAgree fun _ => rfl
  | defineSegment x d src latch drive free =>
    exact (tablesAgree_define s free rfl).trans (measures_recompute _).tablesAgree
  | amendSegment x g d src latch drive held => exact (measures_amend s held d src latch drive).tablesAgree
  | retireSegment x g held unlinked =>
    exact (tablesAgree_retire s held unlinked).trans (measures_recompute _).tablesAgree
  | clearLowMark x g held => exact (measures_setSeg s held g.restartMark_advances).tablesAgree
  | acknowledgeFault x g held => exact (measures_setSeg s held g.acknowledged_advances).tablesAgree
  | requestSpot x g held => exact (measures_setSeg s held (g.requestSpot_advances _)).tablesAgree
  | startSpot x g n held =>
    exact ((measures_setSeg s held (g.requestSpot_advances _)).trans (measures_startCycle _ _)).tablesAgree
  | defineLink i a b m sensor d l free endA endB distinct sensing record =>
    refine tablesAgree_relink s _ (tablesAgree_setLink s fun k same => ?_)
    obtain rfl := Option.some.inj same
    obtain ⟨isA, isB⟩ : l.endA = a ∧ l.endB = b := by rw [record]; exact Link.judge_ends _ _
    rw [isA, isB]
    exact ⟨endA, endB, distinct⟩
  | retireLink i l held => exact tablesAgree_relink s _ (tablesAgree_setLink s nofun)
  | declareLink i l r d held mode changed record =>
    refine tablesAgree_relink s _ fun joins agree => ?_
    refine tablesAgree_setLink s (fun k same => ?_) joins agree
    obtain rfl := Option.some.inj same
    obtain ⟨isA, isB⟩ : r.endA = l.endA ∧ r.endB = l.endB := by rw [record]; exact Link.judge_ends _ _
    rw [isA, isB]
    exact joins i l held
  | attachBridge b x g held freeBridge freeSegment =>
    exact (tablesAgree_attach s held freeBridge freeSegment).trans (measures_recompute _).tablesAgree
  | detachBridge b x held => exact (tablesAgree_unattach s held).trans (measures_recompute _).tablesAgree
  | resetBridge b => exact ((measures_modBridge s b rfl).trans (measures_recompute _)).tablesAgree

theorem tablesAgree_rows : RowRelation TablesAgree where
  trans := TablesAgree.trans
  same h := h.measures.tablesAgree
  accepts := Accepts.tablesAgree
  occurs {s} _ _ _ h due := by
    rcases h.measures due with measures | ⟨i, rfl⟩ | ⟨i, rfl, -⟩
    · exact measures.tablesAgree
    · exact tablesAgree_changeAux s i
    · exact tablesAgree_flagDisagreement s i
  tick s raw := by
    obtain ⟨links, -, segs, attached, -⟩ := measures_tick_but_aux s raw
    exact tablesAgree_of_kept (fun i l held => ⟨l, held, rfl, rfl⟩) segs attached
  stop s := tablesAgree_of_kept (fun i l held => ⟨l, held, rfl, rfl⟩) (segsKept_of_segs rfl) fun b => by
    rw [State.bridge_ofFn (t := s.stop) rfl b]; rfl
  afresh s raw := (s.cleared_startAfresh raw).tablesAgree fun _ => rfl

/-- Settles O57. -/
theorem tablesAgreeIsKept : Obligations.TablesAgreeIsKept := by
  unfold Obligations.TablesAgreeIsKept
  exact fun s t joins agree next => tablesAgree_rows.step next joins agree

end Sys2Proof.Machine

/-! # The ranges after every step (R2, R5, R11, R12, R15, R25, R32, R33, R106, R129, R166) -/

namespace Sys2Proof.Machine

/-- `t` keeps each range law that `s` meets. -/
structure RangesKept (s t : State) : Prop where
  segs : s.SegmentsSound → t.SegmentsSound
  links : s.LinksSound → t.LinksSound
  lines : s.LinksFollowLines → t.LinksFollowLines
  timing : s.timing.Sound → t.timing.Sound

theorem RangesKept.trans {s t u : State} (p : RangesKept s t) (q : RangesKept t u) : RangesKept s u :=
  ⟨q.segs ∘ p.segs, q.links ∘ p.links, q.lines ∘ p.lines, q.timing ∘ p.timing⟩

section Ranges

variable {s t : State}

theorem segmentsSound_of_kept (kept : SegsKept (fun g h => g.Sound → h.Sound) s t) (sound : s.SegmentsSound) :
    t.SegmentsSound := by
  intro x h after
  have here := kept x
  cases before : s.seg x with
  | none => rw [before, after] at here; exact here.elim
  | some g => rw [before, after] at here; exact here (sound x g before)

theorem SegsKept.imp {r q : Segment → Segment → Prop} (kept : SegsKept r s t) (imp : ∀ g h, r g h → q g h) :
    SegsKept q s t := by
  intro x
  have here := kept x
  revert here
  cases s.seg x <;> cases t.seg x
  · exact id
  · exact id
  · exact id
  · exact imp _ _

theorem linksSound_congr (links : t.links = s.links) (sound : s.LinksSound) : t.LinksSound := by
  intro i l held
  rw [State.link, links] at held
  exact sound i l held

theorem linksFollowLines_congr (links : t.links = s.links) (levels : ∀ a : AuxLine, (t.aux[a]).level = (s.aux[a]).level)
    (follow : s.LinksFollowLines) : t.LinksFollowLines := by
  intro i l held
  rw [State.link, links] at held
  simp only [levels]
  exact follow i l held

theorem rangesKept_of_tables (links : t.links = s.links) (levels : ∀ a : AuxLine, (t.aux[a]).level = (s.aux[a]).level)
    (timing : t.timing = s.timing) (segs : s.SegmentsSound → t.SegmentsSound) : RangesKept s t :=
  ⟨segs, linksSound_congr links, linksFollowLines_congr links levels, fun sound => timing ▸ sound⟩

theorem Measures.rangesKept (h : Measures s t) : RangesKept s t :=
  rangesKept_of_tables h.links (fun a => by rw [h.aux]) h.timing
    (segmentsSound_of_kept (h.segs.imp fun _ _ adv => adv.2))

theorem timing_reset_sound : Timing.reset.Sound := by unfold Timing.Sound; decide

theorem timing_clamp_sound (p : Timing) : p.clamp.Sound := by
  simp only [Timing.clamp, Timing.Sound, clampTo]
  omega

theorem State.Cleared.rangesKept {f : BridgeId → Bridge} (h : t.Cleared f) : RangesKept s t where
  segs _ x g held := by rw [h.free x] at held; cases held
  links _ i l held := by rw [h.noLink i] at held; cases held
  lines _ i l held := by rw [h.noLink i] at held; cases held
  timing _ := h.timing ▸ timing_reset_sound

/-! ### Links -/

theorem Link.judge_sound {l : Link} (effective : l.effective = effectiveOf l.mode l.declared l.sensed)
    (idle : l.mode ≠ .checked → l.disagreeStart = none ∧ l.disagreeFlag = false) (now : Uptime) : (l.judge now).Sound := by
  unfold Link.judge
  split
  · next checked =>
    split
    · next agrees => exact ⟨effective, nofun, by simp [agrees]⟩
    · next differs =>
      refine ⟨effective, fun _ => ?_, ?_⟩
      · dsimp only; split <;> rfl
      · dsimp only; split <;> simp [checked, differs]
  · next other =>
    obtain ⟨start, flag⟩ := idle other
    exact ⟨effective, by simp [flag], by simp [start, other]⟩

theorem Link.Sound.idle {l : Link} (sound : l.Sound) (other : l.mode ≠ .checked) :
    l.disagreeStart = none ∧ l.disagreeFlag = false := by
  obtain ⟨-, flagged, start⟩ := sound
  have none_ : l.disagreeStart = none := by
    rw [← Option.not_isSome_iff_eq_none, start]
    exact fun h => other h.1
  refine ⟨none_, Bool.not_eq_true _ ▸ fun flag => ?_⟩
  have := flagged flag
  rw [none_] at this
  cases this

theorem Link.define_sound (a b : SegId) (m : LinkMode) (sensor : Option (AuxLine × Polarity)) (high : Bool) (d : Contact)
    (now : Uptime) : (Link.define a b m sensor high d now).Sound :=
  Link.judge_sound rfl (fun _ => ⟨rfl, rfl⟩) now

theorem Link.follow_sound {l : Link} (sound : l.Sound) (line : AuxLine) (high : Bool) (now : Uptime) :
    (l.follow line high now).Sound := by
  unfold Link.follow
  split
  · next p _ _ =>
    split
    · exact Link.judge_sound (l := ({ l with sensed := some (sensedOf p high) } : Link).deriveEffective) rfl sound.idle now
    · exact sound
  · exact sound

theorem linksSound_setLink {i : LinkId} {r : Option Link} (record : ∀ l, r = some l → l.Sound) (sound : s.LinksSound) :
    (s.setLink i r).LinksSound := by
  intro j l held
  rw [State.link_setLink] at held
  split at held
  · exact record l held
  · exact sound j l held

/-- The law of one link (R24, R32). -/
def State.LineFollowed (s : State) (l : Link) : Prop :=
  (l.mode = .declared → l.aux = none ∧ l.polarity = none ∧ l.sensed = none) ∧
  (l.mode ≠ .declared → ∃ a pol, l.aux = some a ∧ l.polarity = some pol ∧
    l.sensed = some (if (s.aux[a]).level = true ↔ pol = .normallyOpen then .closed else .opened))

theorem linksFollowLines_setLink {i : LinkId} {r : Option Link} (record : ∀ l, r = some l → s.LineFollowed l)
    (follow : s.LinksFollowLines) : (s.setLink i r).LinksFollowLines := by
  intro j l held
  rw [State.link_setLink] at held
  split at held
  · exact record l held
  · exact follow j l held

/-- The judgement and the effective state leave the line, the polarity and the sensed state of a link. -/
theorem Link.judge_line (l : Link) (now : Uptime) :
    (l.judge now).mode = l.mode ∧ (l.judge now).aux = l.aux ∧ (l.judge now).polarity = l.polarity ∧
    (l.judge now).sensed = l.sensed := by
  unfold Link.judge
  split
  · split <;> exact ⟨rfl, rfl, rfl, rfl⟩
  · exact ⟨rfl, rfl, rfl, rfl⟩

theorem State.lineFollowed_judge {l : Link} (now : Uptime) (h : s.LineFollowed l.deriveEffective) :
    s.LineFollowed (l.deriveEffective.judge now) := by
  obtain ⟨mode, aux, polarity, sensed⟩ := Link.judge_line l.deriveEffective now
  rw [State.LineFollowed, mode, aux, polarity, sensed]
  exact h

theorem State.lineFollowed_define (a b : SegId) {m : LinkMode} {sensor : Option (AuxLine × Polarity)}
    (sensing : m = .declared ↔ sensor = none) (d : Contact) (now : Uptime) :
    s.LineFollowed (Link.define a b m sensor (sensor.any fun p => s.auxLevel p.1) d now) := by
  refine State.lineFollowed_judge now ⟨fun declared => ?_, fun other => ?_⟩
  · rw [sensing.mp declared]; exact ⟨rfl, rfl, rfl⟩
  · cases sensor with
    | none => exact absurd (sensing.mpr rfl) other
    | some p => exact ⟨p.1, p.2, rfl, rfl, congrArg some (sensedOf_eq _ _)⟩

theorem rangesKept_relink {i : LinkId} {r : Option Link} (event : Bool)
    (sound : s.LinksSound → ∀ l, r = some l → l.Sound)
    (follow : s.LinksFollowLines → ∀ l, r = some l → s.LineFollowed l) : RangesKept s (s.relink i r event) := by
  have set : RangesKept s (s.setLink i r) :=
    ⟨id, fun h => linksSound_setLink (sound h) h, fun h => linksFollowLines_setLink (follow h) h, id⟩
  unfold State.relink
  split
  · exact set.trans (measures_recompute _).rangesKept
  · exact set

/-- A link on the line follows its filtered change, and another link's line does not move (R32). -/
theorem State.lineFollowed_turnAux (i : AuxLine) {k : Link} (follow : s.LineFollowed k) :
    (s.turnAux i).LineFollowed (k.follow i (s.aux[i]).change.level s.uptime) := by
  obtain ⟨declared, sensing⟩ := follow
  by_cases mode : k.mode = .declared
  · obtain ⟨aux, polarity, sensed⟩ := declared mode
    rw [Link.follow_other (.inr polarity)]
    exact ⟨fun _ => ⟨aux, polarity, sensed⟩, fun other => absurd mode other⟩
  · obtain ⟨a, pol, aux, polarity, sensed⟩ := sensing mode
    by_cases here : a = i
    · subst here
      rw [Link.follow_eq aux polarity]
      split
      · next already =>
        refine ⟨fun declared => absurd declared mode, fun _ => ⟨a, pol, aux, polarity, ?_⟩⟩
        rw [already, s.level_turnAux, if_pos rfl, sensedOf_eq]
      · refine ⟨fun declared => absurd declared mode, fun _ => ⟨a, pol, aux, polarity, ?_⟩⟩
        rw [s.level_turnAux, if_pos rfl, ← sensedOf_eq]
    · rw [Link.follow_other (.inl (by rw [aux]; simpa using here))]
      refine ⟨fun declared => absurd declared mode, fun _ => ⟨a, pol, aux, polarity, ?_⟩⟩
      rw [s.level_turnAux, if_neg here]
      exact sensed

theorem rangesKept_changeAux (i : AuxLine) : RangesKept s (s.changeAux i) := by
  have turned : RangesKept s (s.turnAux i) := by
    refine ⟨fun sound => ?_, fun sound j l held => ?_, fun follow j l held => ?_, fun sound => ?_⟩
    · exact segmentsSound_of_kept ((segsKept_of_segs (s.segs_turnAux i)).imp fun _ _ adv => adv.2) sound
    · rw [s.link_turnAux] at held
      obtain ⟨k, before, rfl⟩ := Option.map_eq_some_iff.mp held
      exact Link.follow_sound (sound j k before) _ _ _
    · rw [s.link_turnAux] at held
      obtain ⟨k, before, rfl⟩ := Option.map_eq_some_iff.mp held
      exact State.lineFollowed_turnAux i (follow j k before)
    · have timing : (s.turnAux i).timing = s.timing := by rw [s.turnAux_but_lines]
      rw [timing]; exact sound
  rw [s.changeAux_eq]
  split
  · exact turned.trans (measures_recompute _).rangesKept
  · exact turned

/-- A disagreement flag is set only on a link that holds a disagreement (R34). -/
theorem rangesKept_flagDisagreement {i : LinkId}
    (due : (s.link i).any (fun l => l.windowOver s.uptime s.timing.agreement) = true) :
    RangesKept s (s.flagDisagreement i) := by
  obtain ⟨l, held, over_⟩ := Option.any_iff_exists.mp due
  have started : l.disagreeStart.isSome := by
    simp only [Link.windowOver, Bool.and_eq_true] at over_
    obtain ⟨k, start, -⟩ := Option.any_iff_exists.mp over_.2
    rw [start]; rfl
  have flagged : ∀ k, (s.link i).map (fun l => ({ l with disagreeFlag := true } : Link)) = some k →
      k = { l with disagreeFlag := true } := by
    intro k same
    rw [held] at same
    exact (Option.some.inj same).symm
  have set : RangesKept s (s.setLink i ((s.link i).map fun l => { l with disagreeFlag := true })) := by
    refine ⟨id, fun sound => linksSound_setLink (fun k same => ?_) sound,
      fun follow => linksFollowLines_setLink (fun k same => ?_) follow, id⟩
    · rw [flagged k same]
      obtain ⟨effective, -, start⟩ := sound i l held
      exact ⟨effective, fun _ => started, start⟩
    · rw [flagged k same]
      exact follow i l held
  have raised (t : State) : RangesKept t (t.raiseDevice .linkDisagree) := ⟨id, id, id, id⟩
  exact set.trans (raised _)

end Ranges

theorem Accepts.rangesKept {s t : State} (h : Accepts s t) : RangesKept s t := by
  have attachments {u : State} (segs : SegsKept (fun g h => g.Sound → h.Sound) s u) (links : u.links = s.links)
      (aux : u.aux = s.aux) (timing : u.timing = s.timing) : RangesKept s u.recompute :=
    (rangesKept_of_tables links (fun a => by rw [aux]) timing (segmentsSound_of_kept segs)).trans
      (measures_recompute u).rangesKept
  cases h with
  | clearNotices x g held => exact (measures_setSeg s held g.clearNotices_advances).rangesKept
  | clearAllNotices => exact (measures_mapSegs s fun _ g => g.clearNotices_advances).rangesKept
  | clearDeviceNotices | setDeviceEnables => exact rangesKept_of_tables rfl (fun _ => rfl) rfl id
  | setTiming p => exact ⟨id, id, id, fun _ => timing_clamp_sound p⟩
  | setEnables x g e held => exact (measures_setSeg s held (g.setEnables_advances e)).rangesKept
  | setAllEnables f8 => exact (measures_mapSegs s fun _ g => g.setEnables_advances _).rangesKept
  | restart raw => exact (s.cleared_restart raw).rangesKept
  | defineSegment x d src latch drive free =>
    have defined : RangesKept s (s.setSeg x (some (Segment.define d.clamp src latch drive s.uptime))) := by
      refine rangesKept_of_tables rfl (fun _ => rfl) rfl fun sound y h after => ?_
      rw [State.seg_setSeg] at after
      split at after
      · obtain rfl := Option.some.inj after
        exact Segment.define_sound d src latch drive s.uptime
      · exact sound y h after
    exact defined.trans (measures_recompute _).rangesKept
  | amendSegment x g d src latch drive held => exact (measures_amend s held d src latch drive).rangesKept
  | retireSegment x g held unlinked =>
    have tables : ((s.detachHeld g.bridge).setSeg x none).links = s.links ∧
        ((s.detachHeld g.bridge).setSeg x none).aux = s.aux ∧
        ((s.detachHeld g.bridge).setSeg x none).timing = s.timing ∧
        ∀ y, (s.detachHeld g.bridge).seg y = s.seg y := by cases g.bridge <;> exact ⟨rfl, rfl, rfl, fun _ => rfl⟩
    obtain ⟨links, aux, timing, segs⟩ := tables
    refine (rangesKept_of_tables links (fun a => by rw [aux]) timing fun sound y h after => ?_).trans
      (measures_recompute _).rangesKept
    rw [State.seg_setSeg] at after
    split at after
    · cases after
    · rw [segs] at after
      exact sound y h after
  | clearLowMark x g held => exact (measures_setSeg s held g.restartMark_advances).rangesKept
  | acknowledgeFault x g held => exact (measures_setSeg s held g.acknowledged_advances).rangesKept
  | requestSpot x g held => exact (measures_setSeg s held (g.requestSpot_advances _)).rangesKept
  | startSpot x g n held =>
    exact ((measures_setSeg s held (g.requestSpot_advances _)).trans (measures_startCycle _ _)).rangesKept
  | defineLink i a b m sensor d l free endA endB distinct sensing record =>
    refine rangesKept_relink _ (fun _ k same => ?_) fun _ k same => ?_
    · rw [← Option.some.inj same, record]; exact Link.define_sound _ _ _ _ _ _ _
    · rw [← Option.some.inj same, record]; exact State.lineFollowed_define a b sensing d s.uptime
  | retireLink i l held => exact rangesKept_relink _ (fun _ => nofun) fun _ => nofun
  | declareLink i l r d held mode changed record =>
    refine rangesKept_relink _ (fun sound k same => ?_) fun follow k same => ?_
    · rw [← Option.some.inj same, record]
      exact Link.judge_sound (l := ({ l with declared := d } : Link).deriveEffective) rfl (sound i l held).idle s.uptime
    · rw [← Option.some.inj same, record]
      exact State.lineFollowed_judge s.uptime (follow i l held)
  | attachBridge b x g held =>
    exact attachments (segsKept_modSeg (s.modBridge b _) (fun _ => id) fun g _ sound => { sound with }) rfl rfl rfl
  | detachBridge b x held =>
    exact attachments (segsKept_modSeg (s.modBridge b _) (fun _ => id) fun g _ sound => { sound with }) rfl rfl rfl
  | resetBridge b => exact ((measures_modBridge s b rfl).trans (measures_recompute _)).rangesKept

theorem rangesKept_rows : RowRelation RangesKept where
  trans := RangesKept.trans
  same h := h.measures.rangesKept
  accepts := Accepts.rangesKept
  occurs {s} _ _ _ h due := by
    rcases h.measures due with measures | ⟨i, rfl⟩ | ⟨i, rfl, flagged⟩
    · exact measures.rangesKept
    · exact rangesKept_changeAux i
    · exact rangesKept_flagDisagreement flagged
  tick s raw := by
    obtain ⟨links, timing, segs, -, levels⟩ := measures_tick_but_aux s raw
    exact rangesKept_of_tables links levels timing (segmentsSound_of_kept (segs.imp fun _ _ adv => adv.2))
  stop s := rangesKept_of_tables rfl (fun _ => rfl) rfl id
  afresh s raw := (s.cleared_startAfresh raw).rangesKept

/-- Settles O59. -/
theorem rangesAreKept : Obligations.RangesAreKept := by
  unfold Obligations.RangesAreKept
  intro s t next
  obtain ⟨segs, links, lines, timing⟩ := rangesKept_rows.step next
  exact ⟨segs, links, lines, timing⟩

end Sys2Proof.Machine

/-! # The laws of the nets and the switches: what keeps them (R40, R41, R43, R48, R53, R57, R58, R67, R80, R82, R87) -/

namespace Sys2Proof.Machine

/-- `t` keeps each of the three nested laws of the nets and the switches that `s` meets. -/
def SwitchesKept (s t : State) : Prop :=
  s.SwitchLaws → t.SwitchLaws ∧ (s.NetsFollowTables → t.NetsFollowTables ∧ (s.CyclesHeld → t.CyclesHeld))

theorem SwitchesKept.trans {s t u : State} (p : SwitchesKept s t) (q : SwitchesKept t u) : SwitchesKept s u := by
  intro laws
  obtain ⟨laws, tables⟩ := p laws
  obtain ⟨laws', tables'⟩ := q laws
  refine ⟨laws', fun follow => ?_⟩
  obtain ⟨follow, cycles⟩ := tables follow
  obtain ⟨follow', cycles'⟩ := tables' follow
  exact ⟨follow', cycles' ∘ cycles⟩

/-! ## Nets, told apart -/

section Apart

variable {s : State}

theorem State.NetsAreComponents.apart (h : s.NetsAreComponents) : s.NetsApart := by
  obtain ⟨members, anchors⟩ := h
  refine ⟨fun n held => ?_, ?_⟩
  · have comp : n.members ∈ s.components := members ▸ List.mem_map_of_mem held
    obtain ⟨nonempty, ascending⟩ := State.components_sorted comp
    exact ⟨nonempty, ascending, anchors n held⟩
  · have disjoint := s.components_pairwise
    rw [← members, List.pairwise_map] at disjoint
    exact disjoint.imp fun h => h.1

theorem State.NetsApart.unique_of_anchor (apart : s.NetsApart) {m n : Net} (heldM : m ∈ s.nets) (heldN : n ∈ s.nets)
    (same : m.anchor = n.anchor) : m = n := by
  have headM := (apart.1 m heldM).2.2
  have headN := (apart.1 n heldN).2.2
  rw [same] at headM
  exact apart.unique heldM heldN (List.mem_of_head? headM) (List.mem_of_head? headN)

theorem State.netAt_some {a : SegId} {n : Net} (net : s.netAt a = some n) : n ∈ s.nets ∧ n.anchor = a :=
  ⟨List.mem_of_find?_eq_some net, by simpa using List.find?_some (p := fun n : Net => decide (n.anchor = a)) net⟩

theorem State.netOf_some {x : SegId} {n : Net} (net : s.netOf x = some n) : n ∈ s.nets ∧ x ∈ n.members :=
  ⟨List.mem_of_find?_eq_some net, by simpa using List.find?_some (p := fun n : Net => n.members.contains x) net⟩

theorem State.NetsApart.netOf (apart : s.NetsApart) {n : Net} (held : n ∈ s.nets) {x : SegId} (mem : x ∈ n.members) :
    s.netOf x = some n := by
  cases found : s.netOf x with
  | none =>
    have missing := List.find?_eq_none.mp found n held
    simp [mem] at missing
  | some m =>
    obtain ⟨heldM, memM⟩ := State.netOf_some found
    rw [apart.unique heldM held memM mem]

theorem State.NetsApart.netAt (apart : s.NetsApart) {n : Net} (held : n ∈ s.nets) : s.netAt n.anchor = some n := by
  cases found : s.netAt n.anchor with
  | none =>
    have missing := List.find?_eq_none.mp found n held
    simp at missing
  | some m =>
    obtain ⟨heldM, at_⟩ := State.netAt_some found
    rw [apart.unique_of_anchor heldM held at_]

/-- No bridge is in the sets of two nets. -/
theorem State.NetsFollowTables.unique (follow : s.NetsFollowTables) (apart : s.NetsApart) {m n : Net}
    (heldM : m ∈ s.nets) (heldN : n ∈ s.nets) {b : BridgeId} (inM : b ∈ m.bridges) (inN : b ∈ n.bridges) : m = n := by
  obtain ⟨x, memX, attachedX⟩ := ((follow m heldM).1 b).mp inM
  obtain ⟨y, memY, attachedY⟩ := ((follow n heldN).1 b).mp inN
  obtain rfl := Option.some.inj (attachedX.symm.trans attachedY)
  exact apart.unique heldM heldN memX memY

/-- The net of a bridge is the one whose set has it. -/
theorem State.NetsFollowTables.netOfBridge (follow : s.NetsFollowTables) (apart : s.NetsApart) {n : Net}
    (held : n ∈ s.nets) {b : BridgeId} (inside : b ∈ n.bridges) : s.netOfBridge b = some n := by
  obtain ⟨x, mem, attached⟩ := ((follow n held).1 b).mp inside
  rw [State.netOfBridge, attached]
  exact apart.netOf held mem

theorem State.netOfBridge_some {b : BridgeId} {n : Net} (net : s.netOfBridge b = some n) :
    n ∈ s.nets ∧ ∃ x ∈ n.members, (s.bridge b).attached = some x := by
  obtain ⟨x, attached, found⟩ := Option.bind_eq_some_iff.mp net
  obtain ⟨held, mem⟩ := State.netOf_some found
  exact ⟨held, x, mem, attached⟩

end Apart

/-! ## What the laws read of the records -/

/-- The drive of a switch of the bridge is on. -/
def Bridge.Driven (b : Bridge) : Prop := b.drvP = true ∨ b.drvN = true

/-- The state, the phase and the crossing flag are the same: what a net reads of its granted bridge. -/
def Bridge.SamePace (b c : Bridge) : Prop := c.state = b.state ∧ c.phase = b.phase ∧ c.crossing = b.crossing

theorem Net.Paced.congr {n : Net} {b c : Bridge} (paced : n.Paced b) (same : b.SamePace c) : n.Paced c := by
  obtain ⟨state, phase, crossing⟩ := same
  simp only [Net.Paced, Bridge.Serves, state, phase, crossing]
  exact paced

/-- What the tables say of a bridge: its attachment, whether it is FAULTED, and its cause. -/
def Bridge.SameStanding (b c : Bridge) : Prop :=
  c.attached = b.attached ∧ (c.state = .faulted ↔ b.state = .faulted) ∧ c.cause = b.cause

theorem Bridge.SameStanding.refl (b : Bridge) : b.SameStanding b := ⟨rfl, .rfl, rfl⟩

theorem Bridge.Kept.standing {b c : Bridge} (kept : b.Kept c) (faulted : c.state = .faulted ↔ b.state = .faulted) :
    b.SameStanding c :=
  ⟨by rw [kept], faulted, by rw [kept]⟩

/-- What a net reads of its members: the source and the externally-supervised flag; no spot becomes pending. -/
def Segment.SameStanding (g h : Segment) : Prop :=
  h.source = g.source ∧ h.ext = g.ext ∧ (g.spot = none → h.spot = none)

theorem Segment.SameStanding.refl (g : Segment) : g.SameStanding g := ⟨rfl, rfl, id⟩

/-- `t` is `s` with every net record rewritten, the components as they were. -/
structure Reworks (s t : State) (f : Net → Net) : Prop where
  nets : t.nets = s.nets.map f
  joints : ∀ i, t.joint i = s.joint i
  segs : SegsKept Segment.SameStanding s t
  members : ∀ n ∈ s.nets, (f n).members = n.members
  anchor : ∀ n ∈ s.nets, (f n).anchor = n.anchor

section Reworks

variable {s t : State} {f : Net → Net} (h : Reworks s t f)

include h

theorem Reworks.forall_nets {P : Net → Prop} (each : ∀ n ∈ s.nets, P (f n)) : ∀ n ∈ t.nets, P n := by
  intro n held
  rw [h.nets] at held
  obtain ⟨m, heldM, rfl⟩ := List.mem_map.mp held
  exact each m heldM

theorem Reworks.netsAreComponents (laws : s.NetsAreComponents) : t.NetsAreComponents := by
  obtain ⟨members, anchors⟩ := laws
  refine ⟨?_, h.forall_nets fun n held => ?_⟩
  · rw [State.components_congr h.segs.isSome h.joints, ← members, h.nets, List.map_map]
    exact List.map_congr_left h.members
  · rw [h.members n held, h.anchor n held]
    exact anchors n held

theorem Reworks.exists_seg {x : SegId} {k : Segment} (after : t.seg x = some k) :
    ∃ g, s.seg x = some g ∧ g.SameStanding k := by
  have kept := h.segs x
  cases before : s.seg x with
  | none => rw [before, after] at kept; exact kept.elim
  | some g => rw [before, after] at kept; exact ⟨g, rfl, kept⟩

theorem Reworks.exists_seg' {x : SegId} {g : Segment} (before : s.seg x = some g) :
    ∃ k, t.seg x = some k ∧ g.SameStanding k := by
  have kept := h.segs x
  cases after : t.seg x with
  | none => rw [before, after] at kept; exact kept.elim
  | some k => rw [before, after] at kept; exact ⟨k, rfl, kept⟩

/-- A rewriting that leaves the bridge sets and the supervision keeps the nets in step with the tables. -/
theorem Reworks.netsFollowTables (bridges : ∀ b, (s.bridge b).SameStanding (t.bridge b))
    (sound : s.NetsSound) (sound' : ∀ n ∈ s.nets, (f n).Sound)
    (same : ∀ n ∈ s.nets, (f n).bridges = n.bridges ∧ (f n).supervision = n.supervision ∧ (f n).reason = n.reason)
    (follow : s.NetsFollowTables) : t.NetsFollowTables := by
  refine h.forall_nets fun n held => ?_
  obtain ⟨set, supervises, members⟩ := follow n held
  obtain ⟨sameBridges, supervision, reason⟩ := same n held
  obtain ⟨external, unmeasurable, -⟩ := sound n held
  obtain ⟨external', unmeasurable', -⟩ := sound' n held
  rw [supervision] at external' unmeasurable'
  rw [h.members n held, sameBridges]
  refine ⟨fun b => ?_, fun ext stuck eligible hext hstuck heligible => ?_, fun x mem k after => ?_⟩
  · rw [set b, (bridges b).1]
  · rw [supervision, reason, sameBridges]
    refine supervises ext stuck eligible (hext.trans ?_) (hstuck.trans ?_) (heligible.trans ?_)
    · rw [h.members n held]
      refine exists_congr fun x => and_congr_right fun _ => ⟨fun ⟨k, after, source⟩ => ?_, fun ⟨g, before, source⟩ => ?_⟩
      · obtain ⟨g, before, sameSource, -⟩ := h.exists_seg after
        exact ⟨g, before, sameSource ▸ source⟩
      · obtain ⟨k, after, sameSource, -⟩ := h.exists_seg' before
        exact ⟨k, after, sameSource ▸ source⟩
    · rw [sameBridges]
      exact exists_congr fun b => and_congr_right fun _ => by rw [(bridges b).2.1, (bridges b).2.2]
    · rw [sameBridges]
      exact exists_congr fun b => and_congr_right fun _ => not_congr (bridges b).2.1
  · obtain ⟨g, before, -, ext, spot⟩ := h.exists_seg after
    obtain ⟨flag, answered⟩ := members x mem g before
    rw [ext, ← external', ← unmeasurable', external, unmeasurable]
    exact ⟨flag, spot ∘ answered⟩

end Reworks

/-! ## Changes that no law notices -/

/-- The bridge may lose drives, and fields that no net reads change within their ranges. -/
structure Bridge.Still (b c : Bridge) : Prop where
  pace : b.SamePace c
  attached : c.attached = b.attached
  cause : c.cause = b.cause
  driven : c.Driven → b.Driven
  sound : b.Sound → c.Sound

theorem Bridge.Still.refl (b : Bridge) : b.Still b := ⟨⟨rfl, rfl, rfl⟩, rfl, rfl, id, id⟩

theorem Bridge.Still.standing {b c : Bridge} (still : b.Still c) : b.SameStanding c :=
  ⟨still.attached, by rw [still.pace.1], still.cause⟩

/-- `t` differs from `s` in nothing that the laws of the nets and the switches read. -/
structure Steady (s t : State) : Prop where
  nets : t.nets = s.nets
  joints : ∀ i, t.joint i = s.joint i
  segs : SegsKept Segment.SameStanding s t
  bridges : ∀ b, (s.bridge b).Still (t.bridge b)

theorem State.GrantsHeld.congr {s t : State} (grants : s.GrantsHeld) (nets : t.nets = s.nets)
    (driven : ∀ b, (t.bridge b).Driven → (s.bridge b).Driven ∨ (s.bridge b).crossing = true)
    (crossing : ∀ b, (t.bridge b).crossing = true → (s.bridge b).crossing = true) (sound : s.NetsSound) :
    t.GrantsHeld := by
  obtain ⟨drives, crossings⟩ := grants
  refine ⟨fun b on => ?_, fun b on => nets ▸ crossings b (crossing b on)⟩
  rw [nets]
  rcases driven b on with was | crosses
  · exact drives b was
  · obtain ⟨n, held, grant, phase⟩ := crossings b crosses
    exact ⟨n, held, grant, (sound n held).own_of_grant grant, n.inProgress_iff.mpr (.inr phase)⟩

theorem Steady.switchesKept {s t : State} (h : Steady s t) : SwitchesKept s t := by
  have reworks : Reworks s t id :=
    ⟨h.nets.trans (List.map_id _).symm, h.joints, h.segs, fun _ _ => rfl, fun _ _ => rfl⟩
  rintro ⟨components, nets, bridges, grants⟩
  refine ⟨⟨reworks.netsAreComponents components, reworks.forall_nets nets, fun b => (h.bridges b).sound (bridges b),
    grants.congr h.nets (fun b on => .inl ((h.bridges b).driven on)) (fun b on => ?_) nets⟩, fun follow => ⟨?_, fun cycles => ?_⟩⟩
  · rwa [← (h.bridges b).pace.2.2]
  · exact reworks.netsFollowTables (fun b => (h.bridges b).standing) nets nets (fun _ _ => ⟨rfl, rfl, rfl⟩) follow
  · refine reworks.forall_nets fun n held => ?_
    obtain ⟨cycle, paced, idle⟩ := cycles n held
    exact ⟨cycle, fun b grant => (paced b grant).congr (h.bridges b).pace, idle⟩

theorem SameRecords.steady {s t : State} (h : SameRecords s t) : Steady s t :=
  ⟨h.nets, State.joint_congr (fun i => by rw [State.link, h.links, State.link])
      fun x => by rw [State.seg, h.segs, State.seg],
    SegsKept.of_seg_eq (r := Segment.SameStanding) Segment.SameStanding.refl fun x => by rw [State.seg, h.segs, State.seg],
    fun b => by rw [State.bridge, State.bridge, h.bridges]; exact .refl _⟩

/-! ## One bridge moves, the nets stay -/

/-- A bridge moves on in its switch sequence and no net record changes. -/
theorem switchesKept_modBridge {s : State} {b : BridgeId} {f : Bridge → Bridge}
    (standing : (s.bridge b).SameStanding (f (s.bridge b))) (sound : (s.bridge b).Sound → (f (s.bridge b)).Sound)
    (driven : (s.bridge b).Sound → (f (s.bridge b)).Driven → (s.bridge b).Driven ∨ (s.bridge b).crossing = true)
    (crossing : (f (s.bridge b)).crossing = true → (s.bridge b).crossing = true)
    (paced : s.SwitchLaws → s.NetsFollowTables → s.CyclesHeld → ∀ n ∈ s.nets, n.grant = some b → n.Paced (s.bridge b) →
      n.Paced (f (s.bridge b))) : SwitchesKept s (s.modBridge b f) := by
  have reworks : Reworks s (s.modBridge b f) id :=
    ⟨(List.map_id _).symm, fun _ => rfl, SegsKept.refl (r := Segment.SameStanding) .refl s, fun _ _ => rfl, fun _ _ => rfl⟩
  rintro ⟨components, nets, bridges, grants⟩
  refine ⟨⟨reworks.netsAreComponents components, reworks.forall_nets nets, fun c => ?_,
    grants.congr rfl (fun c on => ?_) (fun c on => ?_) nets⟩, fun follow => ⟨?_, fun cycles => ?_⟩⟩
  · rw [State.bridge_modBridge]
    split
    · exact sound (bridges b)
    · exact bridges c
  · rw [State.bridge_modBridge] at on
    split at on
    · next same => exact same ▸ driven (bridges b) on
    · exact .inl on
  · rw [State.bridge_modBridge] at on
    split at on
    · next same => exact same ▸ crossing on
    · exact on
  · refine reworks.netsFollowTables (fun c => ?_) nets nets (fun _ _ => ⟨rfl, rfl, rfl⟩) follow
    rw [State.bridge_modBridge]
    split
    · next same => exact same ▸ standing
    · exact .refl _
  · refine reworks.forall_nets fun n held => ?_
    obtain ⟨cycle, pace, idle⟩ := cycles n held
    refine ⟨cycle, fun c grant => ?_, idle⟩
    rw [State.bridge_modBridge]
    split
    · next same =>
      subst same
      exact paced ⟨components, nets, bridges, grants⟩ follow cycles n held grant (pace b grant)
    · exact pace c grant

/-! ## One net moves, and a bridge of its set with it -/

/-- `t` is `s` with the net `n` replaced by `k`. -/
structure Moves (s t : State) (n k : Net) : Prop where
  held : n ∈ s.nets
  nets : t.nets = s.nets.map fun m => if m.anchor = n.anchor then k else m
  joints : ∀ i, t.joint i = s.joint i
  segs : SegsKept Segment.SameStanding s t
  anchor : k.anchor = n.anchor
  members : k.members = n.members
  bridges : k.bridges = n.bridges
  supervision : k.supervision = n.supervision

theorem Moves.reworks {s t : State} {n k : Net} (h : Moves s t n k) (apart : s.NetsApart) :
    Reworks s t fun m => if m.anchor = n.anchor then k else m := by
  refine ⟨h.nets, h.joints, h.segs, fun m held => ?_, fun m held => ?_⟩
  · split
    · next at_ => rw [h.members, apart.unique_of_anchor held h.held at_]
    · rfl
  · split
    · next at_ => rw [h.anchor, at_]
    · rfl

/-- A move keeps the laws if the new record and the bridges meet them. -/
theorem Moves.switchesKept {s t : State} {n k : Net} (h : Moves s t n k)
    (standing : ∀ b, (s.bridge b).SameStanding (t.bridge b))
    (sound : s.SwitchLaws → k.Sound ∧ k.reason = n.reason ∧ t.BridgesSound)
    (driven : s.SwitchLaws → ∀ b, (t.bridge b).Driven →
      ((s.bridge b).Driven ∧ (n.grant = some b → n.inProgress = true → k.grant = some b ∧ k.inProgress = true)) ∨
      (k.grant = some b ∧ k.inProgress = true))
    (crossing : s.SwitchLaws → ∀ b, (t.bridge b).crossing = true →
      ((s.bridge b).crossing = true ∧ (n.grant = some b → n.state = .phaseN → k.grant = some b ∧ k.state = .phaseN)) ∨
      (k.grant = some b ∧ k.state = .phaseN))
    (cycle : s.SwitchLaws → s.NetsFollowTables → s.CyclesHeld →
      k.CycleSound ∧ (∀ b, k.grant = some b → k.Paced (t.bridge b)) ∧ (k.grant = none → k.confirmation = none ∧ k.window = []))
    (others : s.SwitchLaws → s.NetsFollowTables → s.CyclesHeld → ∀ b, b ∉ n.bridges → (s.bridge b).SamePace (t.bridge b)) :
    SwitchesKept s t := by
  intro laws
  have isLaws := laws
  obtain ⟨components, nets, bridges, drives, crossings⟩ := laws
  have apart := components.apart
  have reworks := h.reworks apart
  obtain ⟨kSound, reason, bridges'⟩ := sound isLaws
  have sound' : ∀ m ∈ s.nets, (if m.anchor = n.anchor then k else m).Sound := by
    intro m held
    split
    · exact kSound
    · exact nets m held
  have mem_k : k ∈ t.nets := by
    rw [h.nets]
    exact List.mem_map.mpr ⟨n, h.held, if_pos rfl⟩
  have mem_other {m : Net} (held : m ∈ s.nets) (other : m ≠ n) : m ∈ t.nets := by
    rw [h.nets]
    exact List.mem_map.mpr ⟨m, held, if_neg fun at_ => other (apart.unique_of_anchor held h.held at_)⟩
  refine ⟨⟨reworks.netsAreComponents components, reworks.forall_nets sound', bridges', fun b on => ?_, fun b on => ?_⟩,
    fun follow => ⟨?_, fun cycles => ?_⟩⟩
  · have granted (grant : k.grant = some b) (progress : k.inProgress = true) :
        ∃ m ∈ t.nets, m.grant = some b ∧ m.supervision = .own ∧ m.inProgress = true :=
      ⟨k, mem_k, grant, kSound.own_of_grant grant, progress⟩
    rcases driven isLaws b on with ⟨was, stays⟩ | ⟨grant, progress⟩
    · obtain ⟨m, held, grant, own, progress⟩ := drives b was
      by_cases same : m = n
      · obtain ⟨grant, progress⟩ := stays (same ▸ grant) (same ▸ progress)
        exact granted grant progress
      · exact ⟨m, mem_other held same, grant, own, progress⟩
    · exact granted grant progress
  · rcases crossing isLaws b on with ⟨was, stays⟩ | ⟨grant, phase⟩
    · obtain ⟨m, held, grant, phase⟩ := crossings b was
      by_cases same : m = n
      · exact ⟨k, mem_k, stays (same ▸ grant) (same ▸ phase)⟩
      · exact ⟨m, mem_other held same, grant, phase⟩
    · exact ⟨k, mem_k, grant, phase⟩
  · refine reworks.netsFollowTables standing nets sound' (fun m held => ?_) follow
    split
    · next at_ =>
      obtain rfl := apart.unique_of_anchor held h.held at_
      exact ⟨h.bridges, h.supervision, reason⟩
    · exact ⟨rfl, rfl, rfl⟩
  · refine reworks.forall_nets fun m held => ?_
    split
    · exact cycle isLaws follow cycles
    · next other =>
      obtain ⟨cycleM, paced, idle⟩ := cycles m held
      refine ⟨cycleM, fun b grant => (paced b grant).congr (others isLaws follow cycles b fun inside => other ?_), idle⟩
      rw [follow.unique apart held h.held (cycleM.grant b grant).1 inside]

/-- A move of a net alone, its state and its grant as they were. -/
theorem Moves.switchesKept_of_same {s t : State} {n k : Net} (h : Moves s t n k) (bridges : t.bridges = s.bridges)
    (state : k.state = n.state) (grant : k.grant = n.grant) (sound : s.SwitchLaws → k.Sound ∧ k.reason = n.reason)
    (cycle : s.SwitchLaws → s.NetsFollowTables → s.CyclesHeld →
      k.CycleSound ∧ (∀ b, k.grant = some b → k.Paced (s.bridge b)) ∧ (k.grant = none → k.confirmation = none ∧ k.window = [])) :
    SwitchesKept s t := by
  have same (b : BridgeId) : t.bridge b = s.bridge b := by rw [State.bridge, bridges, State.bridge]
  have progress : k.inProgress = n.inProgress := by rw [Net.inProgress, state, Net.inProgress]
  refine h.switchesKept (fun b => by rw [same]; exact .refl _)
    (fun laws => ⟨(sound laws).1, (sound laws).2, fun b => by rw [same]; exact laws.2.2.1 b⟩) (fun laws b on => ?_)
    (fun laws b on => ?_) (fun laws follow cycles => ?_) fun _ _ _ b _ => by rw [same]; exact ⟨rfl, rfl, rfl⟩
  · rw [same] at on
    exact .inl ⟨on, fun mine running => ⟨grant.trans mine, progress.trans running⟩⟩
  · rw [same] at on
    exact .inl ⟨on, fun mine phase => ⟨grant.trans mine, state.trans phase⟩⟩
  · simp only [same]
    exact cycle laws follow cycles

end Sys2Proof.Machine

/-! # The laws of the nets and the switches after a recompute (R40, R41, R43, R48, R53, R57, R67, R80) -/

namespace Sys2Proof.Machine

/-! ## Bridge records -/

section Bridges

variable {b : Bridge}

theorem Bridge.Sound.cause_none (sound : b.Sound) (working : b.state ≠ .faulted) : b.cause = none := by
  obtain ⟨-, cause, -⟩ := sound
  rw [← Option.not_isSome_iff_eq_none, cause]
  exact working

theorem Bridge.Sound.undriven (sound : b.Sound)
    (state : b.state ≠ .closing ∧ b.state ≠ .dwell ∧ b.state ≠ .settling) : b.drvP = false ∧ b.drvN = false := by
  obtain ⟨⟨served, -⟩, -⟩ := sound
  have off : ¬ (b.drvP = true ∨ b.drvN = true) := fun on => by
    rcases served on with h | h | h
    exacts [state.1 h, state.2.1 h, state.2.2 h]
  simpa using off

theorem Bridge.Sound.uncrossed (sound : b.Sound) (state : b.state ≠ .opening) : b.crossing = false := by
  obtain ⟨-, -, crossing, -⟩ := sound
  exact Bool.not_eq_true _ ▸ mt crossing state

theorem Bridge.enterClosing_sound (sound : b.Sound) (working : b.state ≠ .faulted) (side : Phase) (now : Uptime)
    (sampled : Bool) : Bridge.Sound { b.enterClosing side now with sampled := sampled } := by
  have cause := sound.cause_none working
  obtain ⟨-, -, -, trim, references, -, -, -, up, un⟩ := sound
  cases side <;> simp_all [Bridge.Sound, Bridge.DrivesSafe, Bridge.enterClosing, Bridge.enter]

theorem Bridge.enterOpening_sound (sound : b.Sound) (working : b.state ≠ .faulted) (crossing : Bool) (now : Uptime) :
    (b.enterOpening crossing now).Sound := by
  have cause := sound.cause_none working
  obtain ⟨-, -, -, trim, references, -, -, -, up, un⟩ := sound
  simp_all [Bridge.Sound, Bridge.DrivesSafe, Bridge.enterOpening, Bridge.enter]

theorem Bridge.enterParked_sound (sound : b.Sound) (working : b.state ≠ .faulted) (now : Uptime) :
    (b.enterParked now).Sound := by
  have cause := sound.cause_none working
  obtain ⟨-, -, -, trim, references, timeout, -, -, up, un⟩ := sound
  simp_all [Bridge.Sound, Bridge.DrivesSafe, Bridge.enterParked, Bridge.enter]

theorem Bridge.enterFaulted_sound (sound : b.Sound) (untrimmed : b.cause ≠ some .trim) {c : FaultCause} (switch : c ≠ .trim)
    (now : Uptime) : (b.enterFaulted c now).Sound := by
  obtain ⟨-, -, -, trim, references, -, -, -, up, un⟩ := sound
  simp_all [Bridge.Sound, Bridge.DrivesSafe, Bridge.enterFaulted, Bridge.enter]

theorem Bridge.returned_sound (sound : b.Sound) (untrimmed : b.cause ≠ some .trim) (now : Uptime) :
    (b.returned now).Sound := by
  obtain ⟨-, -, -, trim, references, -, -, -, up, un⟩ := sound
  simp_all [Bridge.Sound, Bridge.DrivesSafe, Bridge.returned, Bridge.enterOpening, Bridge.enter]

/-- The drives of a bridge that moves on within the served states stay on. -/
theorem Bridge.enter_sound (sound : b.Sound) {st : BridgeState} (from_ : b.state ≠ .faulted ∧ b.state ≠ .opening)
    (target : st = .dwell ∨ st = .settling) (now : Uptime) : (b.enter st now).Sound := by
  have cause := sound.cause_none from_.1
  have crossing := sound.uncrossed from_.2
  obtain ⟨⟨-, phaseP, phaseN⟩, -, -, trim, references, timeout, -, -, up, un⟩ := sound
  rcases target with rfl | rfl <;> simp_all [Bridge.Sound, Bridge.DrivesSafe, Bridge.enter]

variable (b) (now : Uptime)

theorem Bridge.closeP_of_parked (parked : b.state = .parked) : b.closeP now =
    { b.enterClosing .p now with sampled := decide (Config.watchLength ≤ b.watchP) && b.snsP } := if_pos parked

theorem Bridge.closeP_sound (sound : b.Sound) : (b.closeP now).Sound := by
  unfold Bridge.closeP
  split
  · next parked => exact Bridge.enterClosing_sound sound (by rw [parked]; decide) _ _ _
  · exact sound

/-- OPEN leaves no drive on and no crossover under way. -/
theorem Bridge.openSwitches_sound (sound : b.Sound) :
    (b.openSwitches now).Sound ∧ ¬ (b.openSwitches now).Driven ∧ (b.openSwitches now).crossing = false := by
  unfold Bridge.openSwitches
  cases state : b.state with
  | closing | dwell | settling =>
    exact ⟨Bridge.enterOpening_sound sound (by rw [state]; decide) _ _, by simp [Bridge.Driven, Bridge.enterOpening], rfl⟩
  | opening =>
    obtain ⟨offP, offN⟩ := sound.undriven (by rw [state]; decide)
    refine ⟨?_, by simp [Bridge.Driven, offP, offN], rfl⟩
    obtain ⟨drives, cause, -, rest⟩ := sound
    rw [Bridge.DrivesSafe, state] at drives
    rw [state] at cause
    exact ⟨drives, cause, by simp, rest⟩
  | parked | faulted =>
    obtain ⟨offP, offN⟩ := sound.undriven (by rw [state]; decide)
    exact ⟨sound, by simp [Bridge.Driven, offP, offN], sound.uncrossed (by rw [state]; decide)⟩

end Bridges

/-! ## The switch laws -/

section Recompute

variable {s : State}

/-- A granted net works on a cycle or its release, so it is not waiting (R51, R58). -/
theorem State.testGrant_of_granted {n : Net} (sound : n.Sound) {b : BridgeId} (grant : n.grant = some b) :
    s.testGrant n = none := by
  rw [Option.eq_none_iff_forall_not_mem]
  intro c tested
  obtain ⟨-, -, grants, -⟩ := sound
  have busy := grants.mp (by rw [grant]; rfl)
  rcases ((s.testGrant_eq_some_iff n c).mp tested).1 with ⟨state, -⟩ | ⟨state, -⟩ <;> simp [state] at busy

/-- A net that keeps its grant through a recompute is undisturbed (R45). -/
theorem State.outcome_of_untaken (apart : s.NetsApart) (sound : s.NetsSound) {m : Net} (held : m ∈ s.nets)
    {b : BridgeId} (grant : m.grant = some b) (comp : m.members ∈ s.components) (untaken : ¬ s.Taken b) :
    s.outcome m.members = { m with bridges := s.bridgeSet m.members } := by
  have derives := s.derive_derives m.members
  have net : (s.derive m.members).net = { m with bridges := s.bridgeSet m.members } := by
    have released : (s.derive m.members).released ≠ some b := fun released => untaken (.inr ⟨_, comp, released⟩)
    revert derives released
    generalize s.derive m.members = d
    intro derives released
    cases derives with
    | fresh new => exact absurd rfl (new m held)
    | kept m' held' members => rw [apart.unique_of_members held' held members]
    | lost m' held' members =>
      rw [apart.unique_of_members held' held members] at released
      exact absurd grant released
    | changed m' held' members other =>
      rw [apart.unique_of_members held' held members] at other
      exact absurd ((sound m held).own_of_grant grant) other
  rw [State.outcome_of_none, net]
  rw [net]
  exact State.testGrant_of_granted (n := { m with bridges := s.bridgeSet m.members }) (sound m held) grant

theorem State.recompute_bridgesSound (apart : s.NetsApart) (bridges : s.BridgesSound) : s.recompute.BridgesSound := by
  classical
  intro b
  rw [State.bridge_recompute apart]
  split
  · exact Bridge.closeP_sound _ _ (bridges b)
  · split
    · exact (Bridge.openSwitches_sound _ _ (bridges b)).1
    · exact bridges b

/-- After a recompute every drive and every crossover is under the grant of a net that works (R45, R67, R81). -/
theorem State.recompute_grantsHeld (apart : s.NetsApart) (sound : s.NetsSound) (bridges : s.BridgesSound)
    (grants : s.GrantsHeld) : s.recompute.GrantsHeld := by
  classical
  obtain ⟨drives, crossings⟩ := grants
  have undisturbed {m : Net} (held : m ∈ s.nets) {b : BridgeId} (grant : m.grant = some b) (untaken : ¬ s.Taken b) :
      ({ m with bridges := s.bridgeSet m.members } : Net) ∈ s.recompute.nets := by
    have comp : m.members ∈ s.components := by
      by_contra former
      exact untaken (.inl ⟨m, held, former, grant⟩)
    rw [← State.outcome_of_untaken apart sound held grant comp untaken]
    exact (State.mem_recompute_nets apart _).mpr ⟨_, comp, rfl⟩
  refine ⟨fun b on => ?_, fun b on => ?_⟩
  · rw [State.bridge_recompute apart] at on
    split at on
    · next granted =>
      obtain ⟨c, comp, grant⟩ := granted
      refine ⟨_, (State.mem_recompute_nets apart _).mpr ⟨c, comp, rfl⟩, ?_⟩
      rw [State.outcome_of_grant apart grant]
      obtain ⟨-, m, -, -, was, -, net, -⟩ := (s.derive_derives c).kept_of_grant grant
      exact ⟨rfl, by rw [net]; exact was, rfl⟩
    · split at on
      · exact absurd on (Bridge.openSwitches_sound _ _ (bridges b)).2.1
      · next untaken =>
        obtain ⟨m, held, grant, own, progress⟩ := drives b on
        exact ⟨_, undisturbed held grant untaken, grant, own, progress⟩
  · rw [State.bridge_recompute apart] at on
    split at on
    · next granted =>
      obtain ⟨c, -, grant⟩ := granted
      rw [Bridge.closeP_of_parked _ _ (State.parked_of_testGrant grant)] at on
      cases on
    · split at on
      · rw [(Bridge.openSwitches_sound _ _ (bridges b)).2.2] at on
        cases on
      · next untaken =>
        obtain ⟨m, held, grant, phase⟩ := crossings b on
        exact ⟨_, undisturbed held grant untaken, grant, phase⟩

theorem State.recompute_switchLaws (apart : s.NetsApart) (sound : s.NetsSound) (bridges : s.BridgesSound)
    (grants : s.GrantsHeld) : s.recompute.SwitchLaws := by
  refine ⟨State.recompute_netsAreComponents apart, fun n held => ?_, State.recompute_bridgesSound apart bridges,
    State.recompute_grantsHeld apart sound bridges grants⟩
  obtain ⟨c, -, rfl⟩ := (State.mem_recompute_nets apart n).mp held
  exact State.outcome_sound apart sound c

/-! ## The nets follow the tables -/

theorem State.recompute_standing (apart : s.NetsApart) (b : BridgeId) :
    (s.bridge b).SameStanding (s.recompute.bridge b) := by
  refine ((resolves_recompute s).bridges b).standing ?_
  classical
  rw [State.bridge_recompute apart]
  split
  · exact Bridge.closeP_faulted_iff _ _
  · split
    · exact Bridge.openSwitches_faulted_iff _ _
    · rfl

theorem Net.supervises_of {n : Net} (decided : (n.supervision, n.reason) = s.supervise n.members n.bridges) :
    s.Supervises n := by
  intro ext stuck eligible hext hstuck heligible
  classical
  rw [State.supervise_eq s n.members n.bridges hext hstuck heligible, Prod.mk.injEq] at decided
  obtain ⟨supervision, reason⟩ := decided
  have empty : n.bridges = [] → ¬ stuck ∧ ¬ eligible := by
    intro none_
    rw [hstuck, heligible, none_]
    simp
  rw [supervision, reason]
  by_cases isExt : ext <;> by_cases isStuck : stuck <;> by_cases isEligible : eligible <;>
    by_cases none_ : n.bridges = [] <;> simp_all

theorem State.recompute_netsFollowTables (apart : s.NetsApart) (sound : s.NetsSound) :
    s.recompute.NetsFollowTables := by
  intro n held
  obtain ⟨c, comp, rfl⟩ := (State.mem_recompute_nets apart n).mp held
  have resolved := resolves_recompute s
  refine ⟨fun b => ?_, ?_, fun x mem h after => ?_⟩
  · rw [State.outcome_bridges, State.outcome_members, s.mem_bridgeSet, (State.recompute_standing apart b).1]
  · refine Net.supervises_of ?_
    rw [State.outcome_supervision apart sound c, State.outcome_members, State.outcome_bridges]
    have source (x : SegId) : ((s.recompute.seg x).any fun g => g.source.isExternal) = (s.seg x).any fun g => g.source.isExternal := by
      have kept := resolved.segs x
      revert kept
      cases s.seg x <;> cases s.recompute.seg x <;> intro kept
      · rfl
      · exact kept.elim
      · exact kept.elim
      · have kept : Segment.Kept _ _ := kept
        simp only [Option.any_some]
        rw [kept]
    have faulted (b : BridgeId) : ((s.recompute.bridge b).state == .faulted) = ((s.bridge b).state == .faulted) := by
      rw [Bool.eq_iff_iff, beq_iff_eq, beq_iff_eq]
      exact (State.recompute_standing apart b).2.1
    have working (b : BridgeId) : ((s.recompute.bridge b).state != .faulted) = ((s.bridge b).state != .faulted) := by
      simp only [bne, faulted]
    have cause (b : BridgeId) : (s.recompute.bridge b).cause = (s.bridge b).cause := (State.recompute_standing apart b).2.2
    simp only [State.supervise, source, faulted, working, cause]
  · rw [State.outcome_members] at mem
    obtain ⟨g, before, -⟩ := resolved.exists_seg after
    obtain ⟨ext, -, spot, -⟩ := State.member_fields apart sound comp mem before after
    exact ⟨by rw [ext, decide_eq_true_eq], spot⟩

/-! ## The cycles -/

/-- What a recompute finds of the cycles: every net sound, each granted bridge in pace with the one net that granted it
unless it has just FAULTED. -/
structure State.CyclesReady (s : State) : Prop where
  cycle : ∀ n ∈ s.nets, n.CycleSound
  paced : ∀ n ∈ s.nets, ∀ b, n.grant = some b → n.Paced (s.bridge b) ∨ (s.bridge b).state = .faulted
  idle : ∀ n ∈ s.nets, n.grant = none → n.confirmation = none ∧ n.window = []
  unique : ∀ m ∈ s.nets, ∀ n ∈ s.nets, ∀ b, m.grant = some b → n.grant = some b → m = n

/-- A net that has been placed in the state of its supervision holds no field of a cycle. -/
theorem Net.placed_cycleSound (m : Net) (bs : List BridgeId) (sup : Supervision) (r : Option Reason) (now : Uptime)
    (q : Nat) : (m.placed bs sup r now q).CycleSound := by
  cases sup <;> exact
    { cycleStart := by simp [Net.placed], phaseP := by simp [Net.placed], spacing := by simp [Net.placed],
      covered := nofun, window := Nat.zero_le _, grant := nofun }

/-- The result of an ended cycle is no field of one. -/
theorem Net.CycleSound.of_lastResult {m : Net} (cycle : m.CycleSound) (r : Option NetResult) :
    Net.CycleSound { m with lastResult := r } :=
  { cycle with }

theorem Net.granted_cycleSound {n : Net} {b : BridgeId} (inside : b ∈ n.bridges) {cov : List SegId}
    (covered : ∀ x ∈ cov, x ∈ n.members) (now : Uptime) : (n.granted b cov now).CycleSound where
  cycleStart := by simp [Net.granted]
  phaseP := by simp [Net.granted, Net.idle, Net.dropCycle]
  spacing := by simp [Net.granted, Net.idle]
  covered x mem := ⟨covered x mem, .inl rfl⟩
  window := Nat.zero_le _
  grant c grant := by
    obtain rfl := Option.some.inj grant
    exact ⟨inside, rfl⟩

/-- A bridge that is told to close P keeps pace with the net that has just granted it (R69, R81). -/
theorem Net.granted_paced (n : Net) (b : BridgeId) (cov : List SegId) (now now' : Uptime) {r : Bridge}
    (parked : r.state = .parked) : (n.granted b cov now).Paced (r.closeP now') := by
  rw [Bridge.closeP_of_parked _ _ parked]
  simp [Net.Paced, Net.granted, Net.idle, Net.dropCycle, Bridge.Serves, Bridge.enterClosing, Bridge.enter]

/-- A bridge that keeps pace with the net that granted it is neither PARKED nor FAULTED. -/
theorem Net.Paced.busy {n : Net} {b : BridgeId} {r : Bridge} (sound : n.Sound) (grant : n.grant = some b)
    (paced : n.Paced r) : r.state ≠ .parked ∧ r.state ≠ .faulted := by
  obtain ⟨-, -, grants, -⟩ := sound
  obtain ⟨phaseP, phaseN, release, -⟩ := paced
  rcases grants.mp (by rw [grant]; rfl) with state | state | state
  · obtain ⟨served, -⟩ := phaseP state
    rcases served with h | h | h <;> rw [h] <;> decide
  · rcases phaseN state with ⟨h, -⟩ | ⟨h | h | h, -⟩ <;> rw [h] <;> decide
  · obtain ⟨h, -⟩ := release state
    rw [h]; decide

theorem State.recompute_cyclesHeld (apart : s.NetsApart) (sound : s.NetsSound) (ready : s.CyclesReady) :
    s.recompute.CyclesHeld := by
  classical
  intro n held
  obtain ⟨c, comp, rfl⟩ := (State.mem_recompute_nets apart n).mp held
  have derives := s.derive_derives c
  cases grant : s.testGrant (s.derive c).net with
  | some b =>
    have parked := State.parked_of_testGrant grant
    have inside := State.mem_bridges_of_testGrant grant
    rw [State.outcome_of_grant apart grant]
    refine ⟨Net.granted_cycleSound inside (fun x mem => ?_) _, fun b' own => ?_, nofun⟩
    · rw [derives.members]
      exact (List.mem_filter.mp mem).1
    · obtain rfl := Option.some.inj own
      rw [State.bridge_recompute apart, if_pos ⟨c, comp, grant⟩]
      exact Net.granted_paced _ _ _ _ _ parked
  | none =>
    rw [State.outcome_of_none grant]
    clear held grant
    generalize hd : s.derive c = d at derives
    cases derives with
    | fresh => exact ⟨Net.placed_cycleSound _ _ _ _ _ _, nofun, fun _ => ⟨rfl, rfl⟩⟩
    | changed => exact ⟨Net.placed_cycleSound _ _ _ _ _ _, nofun, fun _ => ⟨rfl, rfl⟩⟩
    | lost => exact ⟨(Net.placed_cycleSound _ _ _ _ _ _).of_lastResult _, nofun, fun _ => ⟨rfl, rfl⟩⟩
    | kept m heldM members was own usable =>
      have cycle := ready.cycle m heldM
      refine ⟨{ cycle with grant := fun b grant => ⟨(usable b grant).1, (cycle.grant b grant).2⟩ }, fun b grant => ?_,
        ready.idle m heldM⟩
      have grant : m.grant = some b := grant
      have paced := (ready.paced m heldM b grant).resolve_right (usable b grant).2
      have same : s.recompute.bridge b = s.bridge b := by
        rw [State.bridge_recompute apart, if_neg, if_neg]
        · rintro (⟨m', held', former, grant'⟩ | ⟨c', comp', released⟩)
          · rw [ready.unique m' held' m heldM b grant' grant, members] at former
            exact former comp
          · obtain ⟨m', held', members', grant', -⟩ := State.released_grant released
            rw [ready.unique m' held' m heldM b grant' grant, members] at members'
            rw [← members', hd] at released
            cases released
        · rintro ⟨c', -, tested⟩
          exact (paced.busy (sound m heldM) grant).1 (State.parked_of_testGrant tested)
      rw [same]
      exact paced

/-- The state and phase of a bridge that a table command or a fault touches before the recompute: as they were, or
FAULTED on one side, with no drive and no crossover beyond those it had. -/
structure Bridge.Eased (b c : Bridge) : Prop where
  sound : b.Sound → c.Sound
  driven : c.Driven → b.Driven
  crossing : c.crossing = true → b.crossing = true
  pace : b.SamePace c ∨ c.state = .faulted ∨ b.state = .faulted

theorem Bridge.Eased.refl (b : Bridge) : b.Eased b := ⟨id, id, id, .inl ⟨rfl, rfl, rfl⟩⟩

/-- A change of the tables or a switch fault, and the recompute behind it (R42). -/
theorem switchesKept_recompute {u : State} (nets : u.nets = s.nets) (eased : ∀ b, (s.bridge b).Eased (u.bridge b)) :
    SwitchesKept s u.recompute := by
  rintro ⟨components, sound, bridges, grants⟩
  have apart : u.NetsApart := by
    have held := components.apart
    unfold State.NetsApart at held ⊢
    rwa [nets]
  have sound' : u.NetsSound := by
    unfold State.NetsSound at sound ⊢
    rwa [nets]
  refine ⟨State.recompute_switchLaws apart sound' (fun b => (eased b).sound (bridges b))
      (grants.congr nets (fun b on => .inl ((eased b).driven on)) (fun b => (eased b).crossing) sound),
    fun follow => ⟨State.recompute_netsFollowTables apart sound', fun cycles => ?_⟩⟩
  refine State.recompute_cyclesHeld apart sound' ⟨?_, ?_, ?_, ?_⟩ <;> rw [nets]
  · exact fun n held => (cycles n held).1
  · intro n held b grant
    obtain ⟨-, paced, -⟩ := cycles n held
    rcases (eased b).pace with same | faulted | was
    · exact .inl ((paced b grant).congr same)
    · exact .inr faulted
    · exact absurd was ((paced b grant).busy (sound n held) grant).2
  · exact fun n held => (cycles n held).2.2
  · intro m heldM n heldN b grantM grantN
    exact follow.unique components.apart heldM heldN ((cycles m heldM).1.grant b grantM).1
      ((cycles n heldN).1.grant b grantN).1

end Recompute

end Sys2Proof.Machine

/-! # The laws of the nets and the switches through a cycle (R51, R57, R58, R64, R69, R71, R81 to R90) -/

namespace Sys2Proof.Machine

theorem SwitchesKept.refl (s : State) : SwitchesKept s s := fun laws => ⟨laws, fun follow => ⟨follow, id⟩⟩

/-- A move of a net with one bridge of its set. -/
theorem Moves.switchesKept_of_bridge {s t : State} {n k : Net} (h : Moves s t n k) {b : BridgeId}
    (others : ∀ c, c ≠ b → t.bridge c = s.bridge c) (standing : (s.bridge b).SameStanding (t.bridge b))
    (sound : s.SwitchLaws → k.Sound ∧ k.reason = n.reason ∧ (t.bridge b).Sound)
    (only : s.SwitchLaws → ∀ c, n.grant = some c → c = b)
    (driven : s.SwitchLaws → (t.bridge b).Driven → k.grant = some b ∧ k.inProgress = true)
    (crossing : s.SwitchLaws → (t.bridge b).crossing = true → k.grant = some b ∧ k.state = .phaseN)
    (cycle : s.SwitchLaws → s.NetsFollowTables → s.CyclesHeld → b ∈ n.bridges ∧ k.CycleSound ∧
      (∀ c, k.grant = some c → c = b ∧ k.Paced (t.bridge b)) ∧ (k.grant = none → k.confirmation = none ∧ k.window = [])) :
    SwitchesKept s t := by
  refine h.switchesKept (fun c => ?_) (fun laws => ?_) (fun laws c on => ?_) (fun laws c on => ?_)
    (fun laws follow cycles => ?_) fun laws follow cycles c outside => ?_
  · by_cases same : c = b
    · exact same ▸ standing
    · rw [others c same]; exact .refl _
  · obtain ⟨kSound, reason, bridge⟩ := sound laws
    refine ⟨kSound, reason, fun c => ?_⟩
    by_cases same : c = b
    · exact same ▸ bridge
    · rw [others c same]; exact laws.2.2.1 c
  · by_cases same : c = b
    · subst same; exact .inr (driven laws on)
    · rw [others c same] at on
      exact .inl ⟨on, fun mine => absurd (only laws c mine) same⟩
  · by_cases same : c = b
    · subst same; exact .inr (crossing laws on)
    · rw [others c same] at on
      exact .inl ⟨on, fun mine => absurd (only laws c mine) same⟩
  · obtain ⟨-, cycleSound, paced, idle⟩ := cycle laws follow cycles
    refine ⟨cycleSound, fun c grant => ?_, idle⟩
    obtain ⟨rfl, pace⟩ := paced c grant
    exact pace
  · obtain ⟨inside, -⟩ := cycle laws follow cycles
    rw [others c fun same => outside (same ▸ inside)]
    exact ⟨rfl, rfl, rfl⟩

section Cycles

variable {s : State}

theorem State.nets_modNet (apart : s.NetsApart) {n : Net} (held : n ∈ s.nets) (f : Net → Net) :
    (s.modNet n.anchor f).nets = s.nets.map fun m => if m.anchor = n.anchor then f n else m := by
  refine List.map_congr_left fun m heldM => ?_
  split
  · next at_ => rw [apart.unique_of_anchor heldM held at_]
  · rfl

theorem segsKept_standing (s : State) : SegsKept Segment.SameStanding s s :=
  SegsKept.refl (r := Segment.SameStanding) .refl s

theorem Net.Sound.ungranted {n : Net} (sound : n.Sound) (state : n.state = .quiet ∨ n.state = .rest) : n.grant = none := by
  obtain ⟨-, -, grants, -⟩ := sound
  rw [← Option.not_isSome_iff_eq_none, grants]
  rcases state with h | h <;> simp [h]

theorem Net.Sound.own_of_waiting {n : Net} (sound : n.Sound) (state : n.state = .quiet ∨ n.state = .rest) :
    n.supervision = .own :=
  sound.own_iff.mpr (by rcases state with h | h <;> rw [h] <;> decide)

/-! ## The start of a cycle -/

/-- A cycle start of a net in QUIET or REST: the grant, or in REST the pending start (R57, R58, R81, R90). -/
theorem switchesKept_startCycle {a : SegId} {n : Net} (net : s.netAt a = some n)
    (state : n.state = .quiet ∨ n.state = .rest) : SwitchesKept s (s.startCycle a) := by
  obtain ⟨held, rfl⟩ := State.netAt_some net
  intro laws
  have apart := laws.1.apart
  cases next : s.nextBridge n with
  | some b =>
    obtain ⟨inside, parked, -⟩ := (s.nextBridge_eq_some_iff n b).mp next
    have started : s.startCycle n.anchor =
        (s.modNet n.anchor fun m => m.granted b (m.members.filter s.spotPending) s.uptime).modBridge b (·.closeP s.uptime) := by
      simp only [State.startCycle, net, next]
    have bridge (c : BridgeId) : (s.startCycle n.anchor).bridge c = if b = c then (s.bridge b).closeP s.uptime else s.bridge c := by
      rw [started, State.bridge_modBridge]; rfl
    have moves : Moves s (s.startCycle n.anchor) n (n.granted b (n.members.filter s.spotPending) s.uptime) := by
      rw [started]
      exact ⟨held, State.nets_modNet apart held _, fun _ => rfl, segsKept_standing s, rfl, rfl, rfl, rfl⟩
    refine moves.switchesKept_of_bridge (b := b) (fun c other => ?_) ?_ (fun laws => ?_) (fun laws c grant => ?_)
      (fun _ _ => ⟨rfl, rfl⟩) (fun _ on => ?_) (fun laws follow cycles => ?_) laws
    · rw [bridge, if_neg (Ne.symm other)]
    · rw [bridge, if_pos rfl]
      exact (Bridge.closeP_kept _ _).standing (Bridge.closeP_faulted_iff _ _)
    · have sound := laws.2.1 n held
      rw [bridge, if_pos rfl]
      exact ⟨Net.granted_sound (sound.own_of_waiting state) _ _ _, (sound.own_reason (sound.own_of_waiting state)).symm,
        Bridge.closeP_sound _ _ (laws.2.2.1 b)⟩
    · rw [(laws.2.1 n held).ungranted state] at grant
      cases grant
    · rw [bridge, if_pos rfl, Bridge.closeP_of_parked _ _ parked] at on
      cases on
    · rw [bridge, if_pos rfl]
      refine ⟨inside, Net.granted_cycleSound inside (fun x mem => (List.mem_filter.mp mem).1) _, fun c grant => ?_, nofun⟩
      exact ⟨(Option.some.inj grant).symm, Net.granted_paced _ _ _ _ _ parked⟩
  | none =>
    have started : s.startCycle n.anchor =
        s.modNet n.anchor fun m => if m.state = .rest then { m with startPending := true, spacing := none } else m := by
      simp only [State.startCycle, net, next]
    rcases state with quiet | rest
    · have moves : Moves s (s.startCycle n.anchor) n n := by
        rw [started]
        refine ⟨held, (State.nets_modNet apart held _).trans ?_, fun _ => rfl, segsKept_standing s, rfl, rfl, rfl, rfl⟩
        rw [if_neg (by rw [quiet]; decide)]
      exact moves.switchesKept_of_same (by rw [started]; rfl) rfl rfl (fun laws => ⟨laws.2.1 n held, rfl⟩)
        (fun _ _ cycles => cycles n held) laws
    · have moves : Moves s (s.startCycle n.anchor) n { n with startPending := true, spacing := none } := by
        rw [started]
        refine ⟨held, (State.nets_modNet apart held _).trans ?_, fun _ => rfl, segsKept_standing s, rfl, rfl, rfl, rfl⟩
        rw [if_pos rest]
      refine moves.switchesKept_of_same (by rw [started]; rfl) rfl rfl (fun laws => ⟨?_, rfl⟩)
        (fun laws _ cycles => ?_) laws
      · obtain ⟨external, unmeasurable, grants, reason, quiet, -⟩ := laws.2.1 n held
        exact ⟨external, unmeasurable, grants, reason, quiet, fun _ => rest⟩
      · obtain ⟨cycle, paced, idle⟩ := cycles n held
        exact ⟨{ cycle with spacing := by simp }, paced, idle⟩

theorem switchesKept_testWaiting (a : SegId) : SwitchesKept s (s.testWaiting a) := by
  cases net : s.netAt a with
  | none =>
    rw [State.testWaiting, net]
    exact .refl s
  | some n =>
    rw [State.testWaiting_of_net net]
    split
    · next waits =>
      refine switchesKept_startCycle net ?_
      rcases (s.waits_iff n).mp waits with ⟨quiet, -⟩ | ⟨rest, -⟩
      exacts [.inl quiet, .inr rest]
    · exact .refl s

/-- The expiry of a quiet timer, with its test (R51). -/
theorem switchesKept_takeQuiet {a : SegId} {n : Net} (net : s.netAt a = some n) : SwitchesKept s (s.takeQuiet a) := by
  obtain ⟨held, rfl⟩ := State.netAt_some net
  refine SwitchesKept.trans (fun laws => ?_) (switchesKept_testWaiting n.anchor)
  have moves : Moves s (s.modNet n.anchor fun m => { m with quiet := m.quiet.map fun q => { q with expired := true } }) n
      { n with quiet := n.quiet.map fun q => { q with expired := true } } :=
    ⟨held, State.nets_modNet laws.1.apart held _, fun _ => rfl, segsKept_standing s, rfl, rfl, rfl, rfl⟩
  refine moves.switchesKept_of_same rfl rfl rfl (fun laws => ⟨?_, rfl⟩) (fun laws _ cycles => ?_) laws
  · obtain ⟨external, unmeasurable, grants, reason, quiet, pending⟩ := laws.2.1 n held
    exact ⟨external, unmeasurable, grants, reason, by rw [Option.isSome_map]; exact quiet, pending⟩
  · obtain ⟨cycle, paced, idle⟩ := cycles n held
    exact ⟨{ cycle with }, paced, idle⟩

/-! ## The confirmation, the dwell and the samples -/

/-- The granted bridge is the one of its net's set, so the net of the bridge is the one that granted it. -/
theorem State.CyclesHeld.netOfBridge (laws : s.SwitchLaws) (follow : s.NetsFollowTables) (cycles : s.CyclesHeld) {n : Net}
    (held : n ∈ s.nets) {b : BridgeId} (grant : n.grant = some b) : s.netOfBridge b = some n :=
  follow.netOfBridge laws.1.apart held ((cycles n held).1.grant b grant).1

/-- The expiry of a dwell timer (R83). -/
theorem switchesKept_endDwell (b : BridgeId) (now : Uptime) : SwitchesKept s (s.modBridge b (·.endDwell now)) := by
  by_cases dwell : (s.bridge b).state = .dwell
  · have ended : (s.bridge b).endDwell now = (s.bridge b).enter .settling now := if_pos dwell
    refine switchesKept_modBridge ?_ ?_ ?_ ?_ fun _ _ _ n _ _ paced => ?_ <;> rw [ended]
    · exact ⟨rfl, by simp [Bridge.enter, dwell], rfl⟩
    · exact fun sound => Bridge.enter_sound sound (by simp [dwell]) (.inr rfl) _
    · exact fun _ on => .inl on
    · exact id
    · simp_all [Net.Paced, Bridge.Serves, Bridge.enter]
  · have ended : (s.bridge b).endDwell now = s.bridge b := if_neg dwell
    refine switchesKept_modBridge ?_ ?_ ?_ ?_ fun _ _ _ n _ _ paced => ?_ <;> rw [ended]
    · exact .refl _
    · exact id
    · exact fun _ on => .inl on
    · exact id
    · exact paced

/-- The confirmation of a closed switch, and its report to the net that granted the bridge (R69, R82). -/
theorem switchesKept_closeConfirmation {b : BridgeId} (closing : (s.bridge b).state = .closing) :
    SwitchesKept s ((s.modBridge b (·.enter .dwell s.uptime)).reportConfirmation b) := by
  have standing : (s.bridge b).SameStanding ((s.bridge b).enter .dwell s.uptime) :=
    ⟨rfl, by simp [Bridge.enter, closing], rfl⟩
  have sound (was : (s.bridge b).Sound) : ((s.bridge b).enter .dwell s.uptime).Sound :=
    Bridge.enter_sound was (by simp [closing]) (.inl rfl) _
  have sameNet : (s.modBridge b (·.enter .dwell s.uptime)).netOfBridge b = s.netOfBridge b := by
    rw [State.netOfBridge, State.bridge_modBridge, if_pos rfl]; rfl
  have unreported (unnamed : s.SwitchLaws → s.NetsFollowTables → s.CyclesHeld → ∀ n ∈ s.nets, n.grant = some b →
      n.inProgress = true → False) : SwitchesKept s (s.modBridge b (·.enter .dwell s.uptime)) := by
    refine switchesKept_modBridge standing sound (fun _ on => .inl on) id fun laws follow cycles n held grant paced => ?_
    obtain ⟨-, -, release, -⟩ := paced
    obtain ⟨-, -, grants, -⟩ := laws.2.1 n held
    rcases grants.mp (by rw [grant]; rfl) with phase | phase | phase
    · exact (unnamed laws follow cycles n held grant (n.inProgress_iff.mpr (.inl phase))).elim
    · exact (unnamed laws follow cycles n held grant (n.inProgress_iff.mpr (.inr phase))).elim
    · rw [(release phase).1] at closing
      cases closing
  unfold State.reportConfirmation
  rw [sameNet]
  split
  · next unknown =>
    refine unreported fun laws follow cycles n held grant _ => ?_
    rw [cycles.netOfBridge laws follow held grant] at unknown
    cases unknown
  · next n net =>
    split
    · next reported =>
      obtain ⟨progress, grant⟩ := reported
      obtain ⟨held, -⟩ := State.netOfBridge_some net
      intro laws
      refine Moves.switchesKept_of_bridge (b := b) (n := n) (k := { n with
        confirmation := some { time := s.uptime, minDwell := s.timing.minDwell, maxDwell := s.timing.maxDwell,
                               epsilon := s.timing.epsilon },
        window := [] }) ⟨held, State.nets_modNet laws.1.apart held _, fun _ => rfl, segsKept_standing s, rfl, rfl, rfl, rfl⟩
        (fun c other => ?_) ?_ (fun laws => ?_) (fun _ c mine => ?_) (fun _ _ => ⟨grant, progress⟩)
        (fun laws on => ?_) (fun laws follow cycles => ?_) laws
      · rw [State.bridge_modNet, State.bridge_modBridge, if_neg (Ne.symm other)]
      · rw [State.bridge_modNet, State.bridge_modBridge, if_pos rfl]; exact standing
      · rw [State.bridge_modNet, State.bridge_modBridge, if_pos rfl]
        exact ⟨laws.2.1 n held, rfl, sound (laws.2.2.1 b)⟩
      · exact Option.some.inj (mine.symm.trans grant)
      · rw [State.bridge_modNet, State.bridge_modBridge, if_pos rfl] at on
        have off := (laws.2.2.1 b).uncrossed (by rw [closing]; decide)
        exact absurd (off.symm.trans on) (by decide)
      · obtain ⟨cycle, paced, -⟩ := cycles n held
        refine ⟨(cycle.grant b grant).1, { cycle with window := Nat.zero_le _ }, fun c mine => ⟨?_, ?_⟩, fun none_ => ?_⟩
        · exact Option.some.inj (mine.symm.trans grant)
        · rw [State.bridge_modNet, State.bridge_modBridge, if_pos rfl]
          obtain ⟨phaseP, phaseN, release, -, -⟩ := paced b grant
          refine ⟨fun state => ⟨.inr (.inl rfl), (phaseP state).2⟩, fun state => .inr ⟨.inr (.inl rfl), ?_⟩, fun state => ?_,
            by simp [Bridge.enter]; exact progress, fun filled => absurd rfl filled⟩
          · rcases phaseN state with ⟨opening, -⟩ | served
            · rw [closing] at opening; cases opening
            · exact served.2
          · rw [closing] at release
            exact nomatch (release state).1
        · exact absurd (grant.symm.trans none_) (by simp)
    · next other =>
      refine unreported fun laws follow cycles m held grant progress => other ?_
      rw [cycles.netOfBridge laws follow held grant] at net
      obtain rfl := Option.some.inj net
      exact ⟨progress, grant⟩

/-! ## The end of a phase -/

theorem Bridge.cross_crossed {r : Bridge} (ready : r.state = .dwell ∨ r.state = .settling) (side : r.phase = .p)
    (now : Uptime) : r.cross now = r.enterOpening true now := if_pos ⟨ready, side⟩

theorem Bridge.cross_sound {r : Bridge} (sound : r.Sound) (now : Uptime) : (r.cross now).Sound := by
  unfold Bridge.cross
  split
  · next ready =>
    exact Bridge.enterOpening_sound sound (by rcases ready.1 with h | h <;> rw [h] <;> decide) _ _
  · exact sound

theorem Bridge.cross_faulted_iff (r : Bridge) (now : Uptime) : (r.cross now).state = .faulted ↔ r.state = .faulted := by
  unfold Bridge.cross
  split
  · next ready => rcases ready.1 with h | h <;> simp [Bridge.enterOpening, Bridge.enter, h]
  · rfl

/-- The writes of attribution and the answers leave what a net reads of its members (R112, R121). -/
theorem Segment.evaluate_standing (g : Segment) : g.SameStanding g.evaluate := by
  rw [g.evaluate_kept]; exact ⟨rfl, rfl, id⟩

theorem Segment.SameStanding.trans {g h k : Segment} (p : g.SameStanding h) (q : h.SameStanding k) : g.SameStanding k :=
  ⟨q.1.trans p.1, q.2.1.trans p.2.1, q.2.2 ∘ p.2.2⟩

theorem Segment.writeValues_standing (g : Segment) (now : Uptime) (dg : Bool) (q : Quality) (gp gn : Nat) :
    g.SameStanding (g.writeValues now dg q gp gn) := by
  rw [g.writeValues_eq]
  exact Segment.SameStanding.trans ⟨rfl, rfl, id⟩ (Segment.evaluate_standing _)

theorem AttributionCase.write_standing (c : AttributionCase) (x : SegId) (known : Bool) (now : Uptime) (dg : Bool)
    (gp gn : Nat) (g : Segment) : g.SameStanding (c.write x known now dg gp gn g) := by
  cases c with
  | direct => exact g.writeValues_standing _ _ _ _ _
  | derived u p n =>
    simp only [AttributionCase.write]
    split
    · exact g.writeValues_standing _ _ _ _ _
    · exact .refl g
  | confirmation => exact Segment.SameStanding.trans ⟨rfl, rfl, id⟩ (Segment.evaluate_standing _)
  | shared =>
    simp only [AttributionCase.write]
    split
    · exact .refl g
    · exact g.writeValues_standing _ _ _ _ _
  | inconsistent => exact (g.writeValues_standing _ _ _ _ _).trans ⟨rfl, rfl, id⟩

theorem complete_standing (s : State) (n : Net) (b : BridgeId) (g : References) (p v : PhaseValues) :
    SegsKept Segment.SameStanding s (s.complete n b g p v) := by
  intro x
  rw [State.seg_complete]
  have answers (h : Segment) : h.SameStanding
      (if n.covered.contains x then h.answerSpot (calculate g s.timing.lowVoltage p v).outcome else h) := by
    split
    · exact ⟨rfl, rfl, fun _ => rfl⟩
    · exact .refl h
  by_cases attributed : (calculate g s.timing.lowVoltage p v).outcome.attributed = true
  · rw [if_pos attributed, State.seg_attribute, Option.map_map]
    cases s.seg x with
    | none => trivial
    | some h =>
      refine Segment.SameStanding.trans ?_ (answers _)
      split
      · exact AttributionCase.write_standing _ _ _ _ _ _ _ h
      · exact .refl h
  · rw [if_neg attributed]
    cases s.seg x with
    | none => trivial
    | some h => exact answers h

theorem State.links_of_tables {s t : State} (tables : t.tables = s.tables) : t.links = s.links := by
  have links := congrArg State.links tables
  exact links

/-- The end of a phase whose switch is confirmed: the crossover of phase P, the completion of phase N (R85 to R88). -/
theorem switchesKept_endPhase {n : Net} (held : n ∈ s.nets) (confirmed : n.confirmation.isSome) (unsettled : Bool) :
    SwitchesKept s (s.endPhase n unsettled) := by
  unfold State.endPhase
  split
  · next b phase grant =>
    have bridge (v : PhaseValues) (c : BridgeId) :
        (s.crossOver n b v).bridge c = if b = c then (s.bridge b).cross s.uptime else s.bridge c := by
      rw [State.crossOver, State.bridge_modBridge]; rfl
    generalize phaseValues n.window unsettled = v
    intro laws
    refine Moves.switchesKept_of_bridge (b := b) (n := n)
      (k := { n with state := .phaseN, phaseP := some v, confirmation := none, window := [] })
      ⟨held, State.nets_modNet laws.1.apart held _, fun _ => rfl, segsKept_standing s, rfl, rfl, rfl, rfl⟩
      (fun c other => ?_) ?_ (fun laws => ?_) (fun _ c mine => ?_) (fun _ _ => ⟨grant, rfl⟩) (fun _ _ => ⟨grant, rfl⟩)
      (fun laws follow cycles => ?_) laws
    · rw [bridge, if_neg (Ne.symm other)]
    · rw [bridge, if_pos rfl]
      exact (Bridge.cross_kept _ _).standing (Bridge.cross_faulted_iff _ _)
    · rw [bridge, if_pos rfl]
      refine ⟨?_, rfl, Bridge.cross_sound (laws.2.2.1 b) _⟩
      have sound := laws.2.1 n held
      obtain ⟨external, unmeasurable, grants, reason, quiet, pending⟩ := sound
      simp_all [Net.Sound]
    · exact Option.some.inj (mine.symm.trans grant)
    · obtain ⟨cycle, paced, -⟩ := cycles n held
      obtain ⟨phaseP, -, -, confirmation, -⟩ := paced b grant
      obtain ⟨-, ready⟩ := confirmation.mp confirmed
      refine ⟨(cycle.grant b grant).1, ?_, fun c mine => ⟨Option.some.inj (mine.symm.trans grant), ?_⟩, fun none_ => ?_⟩
      · obtain ⟨cycleStart, -, spacing, covered, -, granted⟩ := cycle
        exact
          { cycleStart := by simpa [phase] using cycleStart, phaseP := by simp, spacing := by simpa [phase] using spacing,
            covered := fun x mem => ⟨(covered x mem).1, .inr rfl⟩, window := Nat.zero_le _, grant := granted }
      · rw [bridge, if_pos rfl, Bridge.cross_crossed ready (phaseP phase).2]
        simp [Net.Paced, Bridge.enterOpening, Bridge.enter]
      · exact absurd (grant.symm.trans none_) (by simp)
  · next b phase grant =>
    split
    · next p g values references =>
      generalize phaseValues n.window unsettled = v
      intro laws
      have tables := s.complete_tables n b g p v
      refine Moves.switchesKept_of_bridge (b := b) (n := n)
        (k := n.completed ((calculate g s.timing.lowVoltage p v).toResult s.uptime))
        ⟨held, ?_, ?_, complete_standing s n b g p v, rfl, rfl, rfl, rfl⟩
        (fun c other => ?_) ?_ (fun laws => ?_) (fun _ c mine => ?_) (fun laws on => ?_) (fun laws on => ?_)
        (fun laws follow cycles => ?_) laws
      · rw [s.complete_nets]
        exact State.nets_modNet laws.1.apart held (·.completed ((calculate g s.timing.lowVoltage p v).toResult s.uptime))
      · exact State.joint_congr (fun i => by rw [State.link, State.links_of_tables tables, State.link])
          (complete_standing s n b g p v).isSome
      · rw [State.bridge_complete, if_neg (Ne.symm other)]
      · rw [State.bridge_complete, if_pos rfl]
        exact (Bridge.openSwitches_kept _ _).standing (Bridge.openSwitches_faulted_iff _ _)
      · rw [State.bridge_complete, if_pos rfl]
        refine ⟨?_, rfl, (Bridge.openSwitches_sound _ _ (laws.2.2.1 b)).1⟩
        obtain ⟨external, unmeasurable, grants, reason, quiet, pending⟩ := laws.2.1 n held
        simp_all [Net.Sound, Net.completed]
      · exact Option.some.inj (mine.symm.trans grant)
      · rw [State.bridge_complete, if_pos rfl] at on
        exact absurd on (Bridge.openSwitches_sound _ _ (laws.2.2.1 b)).2.1
      · rw [State.bridge_complete, if_pos rfl, (Bridge.openSwitches_sound _ _ (laws.2.2.1 b)).2.2] at on
        cases on
      · obtain ⟨cycle, paced, -⟩ := cycles n held
        obtain ⟨-, phaseN, -⟩ := paced b grant
        refine ⟨(cycle.grant b grant).1, ?_, fun c mine => ⟨Option.some.inj (mine.symm.trans grant), ?_⟩, fun none_ => ?_⟩
        · obtain ⟨cycleStart, -, spacing, -, -, granted⟩ := cycle
          exact
            { cycleStart := by simpa [phase, Net.completed] using cycleStart, phaseP := by simp [Net.completed],
              spacing := by simpa [phase, Net.completed] using spacing, covered := nofun, window := Nat.zero_le _,
              grant := granted }
        · rw [State.bridge_complete, if_pos rfl]
          have opens : ((s.bridge b).openSwitches s.uptime).state = .opening := by
            rcases phaseN phase with ⟨state, -⟩ | ⟨state | state | state, -⟩ <;>
              simp [Bridge.openSwitches, state, Bridge.enterOpening, Bridge.enter]
          have straight := (Bridge.openSwitches_sound _ s.uptime (laws.2.2.1 b)).2.2
          simp [Net.Paced, Net.completed, Net.inProgress, opens, straight]
        · exact absurd (grant.symm.trans none_) (by simp)
    · exact .refl s
  · exact .refl s

theorem pushSample_length (w : List Sample) (x : Sample) (short : w.length ≤ 8) : (pushSample w x).length ≤ 8 := by
  rw [pushSample_eq]
  split
  · simp; omega
  · simp; omega

/-- A sample of a bridge in SETTLING that the net's cycle logic takes (R65, R84, R85). -/
theorem switchesKept_handSample {b : BridgeId} (x : Sample) (settling : (s.bridge b).state = .settling) :
    SwitchesKept s (s.handSample b x) := by
  unfold State.handSample
  split
  · exact .refl s
  · next n net =>
    split
    · exact .refl s
    · next c confirmation =>
      dsimp only
      obtain ⟨held, -⟩ := State.netOfBridge_some net
      split
      · next taken =>
        obtain ⟨progress, grant⟩ := taken
        have pushed : SwitchesKept s (s.modNet n.anchor fun m => { m with window := pushSample n.window x }) := by
          intro laws
          refine Moves.switchesKept_of_same (n := n) (k := { n with window := pushSample n.window x })
            ⟨held, State.nets_modNet laws.1.apart held _, fun _ => rfl, segsKept_standing s, rfl, rfl, rfl, rfl⟩ rfl rfl rfl
            (fun laws => ⟨laws.2.1 n held, rfl⟩) (fun laws follow cycles => ?_) laws
          obtain ⟨cycle, paced, -⟩ := cycles n held
          refine ⟨{ cycle with window := pushSample_length _ _ cycle.window }, fun c mine => ?_, fun none_ => ?_⟩
          · obtain ⟨phaseP, phaseN, release, confirmed, -⟩ := paced c mine
            obtain rfl := Option.some.inj (mine.symm.trans grant)
            exact ⟨phaseP, phaseN, release, confirmed, fun _ => settling⟩
          · exact absurd (grant.symm.trans none_) (by simp)
        split
        · refine pushed.trans (switchesKept_endPhase ?_ (by rw [confirmation]; rfl) false)
          exact List.mem_map.mpr ⟨n, held, if_pos rfl⟩
        · exact pushed
      · exact .refl s

/-- The codes of a sample event convert within the range of a sample (R64). -/
theorem Bridge.takeSample_still (r : Bridge) (p n : BitVec 16) : r.Still (r.takeSample p n) := by
  refine ⟨⟨rfl, rfl, rfl⟩, rfl, rfl, id, fun sound => ?_⟩
  obtain ⟨drives, cause, crossing, trim, references, timeout, watchP, watchN, -, -⟩ := sound
  exact ⟨drives, cause, crossing, trim, references, timeout, watchP, watchN, min_le_left _ _, min_le_left _ _⟩

theorem steady_modBridge (b : BridgeId) {f : Bridge → Bridge} (still : (s.bridge b).Still (f (s.bridge b))) :
    Steady s (s.modBridge b f) := by
  refine ⟨rfl, fun _ => rfl, segsKept_standing s, fun c => ?_⟩
  rw [State.bridge_modBridge]
  split
  · next same => exact same ▸ still
  · exact .refl _

theorem switchesKept_sampleBridge (b : BridgeId) (p n : BitVec 16) : SwitchesKept s (s.sampleBridge b p n) := by
  have sampled := (steady_modBridge (s := s) b (f := (·.takeSample p n)) ((s.bridge b).takeSample_still p n)).switchesKept
  unfold State.sampleBridge
  dsimp only
  split
  · next settling => exact sampled.trans (switchesKept_handSample _ settling)
  · exact sampled

/-! ## The confirmation of open switches -/

/-- The end of a RELEASE (R89, R90): REST with its spacing, and the next cycle where it is to start at once. -/
theorem switchesKept_endRelease {b : BridgeId} {n : Net} (opening : (s.bridge b).state = .opening) (held : n ∈ s.nets)
    (grant : n.grant = some b) :
    SwitchesKept s ((s.modBridge b (·.enterParked s.uptime)).endRelease n.anchor) := by
  have rest : SwitchesKept s ((s.modBridge b (·.enterParked s.uptime)).modNet n.anchor fun m =>
      { m.idle with supervision := m.supervision, state := .rest,
                    spacing := some { start := s.uptime, length := s.timing.spacing } }) := by
    intro laws
    refine Moves.switchesKept_of_bridge (b := b) (n := n)
      (k := { n.idle with supervision := n.supervision, state := .rest,
                          spacing := some { start := s.uptime, length := s.timing.spacing } })
      ⟨held, State.nets_modNet laws.1.apart held _, fun _ => rfl, segsKept_standing s, rfl, rfl, rfl, rfl⟩
      (fun c other => ?_) ?_ (fun laws => ?_) (fun _ c mine => ?_) (fun laws on => ?_) (fun _ on => ?_)
      (fun laws follow cycles => ?_) laws
    · rw [State.bridge_modNet, State.bridge_modBridge, if_neg (Ne.symm other)]
    · rw [State.bridge_modNet, State.bridge_modBridge, if_pos rfl]
      exact ⟨rfl, by simp [Bridge.enterParked, Bridge.enter, opening], rfl⟩
    · rw [State.bridge_modNet, State.bridge_modBridge, if_pos rfl]
      have sound := laws.2.1 n held
      have own := sound.own_of_grant grant
      refine ⟨by simp [Net.Sound, Net.idle, Net.dropCycle, own], (sound.own_reason own).symm,
        Bridge.enterParked_sound (laws.2.2.1 b) (by rw [opening]; decide) _⟩
    · exact Option.some.inj (mine.symm.trans grant)
    · rw [State.bridge_modNet, State.bridge_modBridge, if_pos rfl] at on
      simp [Bridge.Driven, Bridge.enterParked] at on
    · rw [State.bridge_modNet, State.bridge_modBridge, if_pos rfl] at on
      cases on
    · obtain ⟨cycle, -⟩ := cycles n held
      exact ⟨(cycle.grant b grant).1,
        { cycleStart := by simp [Net.idle, Net.dropCycle], phaseP := by simp [Net.idle, Net.dropCycle],
          spacing := by simp [Net.idle], covered := nofun, window := Nat.zero_le _, grant := nofun },
        nofun, fun _ => ⟨rfl, rfl⟩⟩
  unfold State.endRelease
  dsimp only
  split
  · exact rest
  · split
    · intro laws
      refine (rest.trans (switchesKept_startCycle (n := { n.idle with
        supervision := n.supervision, state := .rest,
        spacing := some { start := s.uptime, length := s.timing.spacing } }) ?_ (.inr rfl))) laws
      rw [State.netAt_modNet, show (s.modBridge b (·.enterParked s.uptime)).netAt n.anchor = some n from
        laws.1.apart.netAt held]
      · rfl
      · exact fun _ => rfl
    · exact rest

/-- The crossover of a bridge goes on, or it is PARKED and its net takes the arrival (R71, R89). -/
theorem switchesKept_confirmOpen {b : BridgeId} (opening : (s.bridge b).state = .opening) :
    SwitchesKept s (s.confirmOpen b) := by
  unfold State.confirmOpen
  split
  · next crossing =>
    refine switchesKept_modBridge ⟨rfl, by simp [Bridge.enterClosing, Bridge.enter, opening], rfl⟩
      (fun sound => Bridge.enterClosing_sound sound (by rw [opening]; decide) .n s.uptime false) (fun _ _ => .inr crossing) nofun
      fun laws _ _ n held grant paced => ?_
    simp_all [Net.Paced, Bridge.Serves, Bridge.enterClosing, Bridge.enter]
  · next straight =>
    have sameNet : (s.modBridge b (·.enterParked s.uptime)).netOfBridge b = s.netOfBridge b := by
      rw [State.netOfBridge, State.bridge_modBridge, if_pos rfl]; rfl
    have parked (idle : s.SwitchLaws → s.NetsFollowTables → s.CyclesHeld → ∀ n ∈ s.nets, n.grant = some b →
        n.state = .release → False) : SwitchesKept s (s.modBridge b (·.enterParked s.uptime)) := by
      refine switchesKept_modBridge ⟨rfl, by simp [Bridge.enterParked, Bridge.enter, opening], rfl⟩
        (fun sound => Bridge.enterParked_sound sound (by rw [opening]; decide) s.uptime) (fun _ on => ?_) nofun
        fun laws follow cycles n held grant paced => ?_
      · simp [Bridge.Driven, Bridge.enterParked] at on
      · obtain ⟨-, -, grants, -⟩ := laws.2.1 n held
        obtain ⟨phaseP, phaseN, -⟩ := paced
        rcases grants.mp (by rw [grant]; rfl) with phase | phase | phase
        · have served := (phaseP phase).1
          simp [opening] at served
        · have served := phaseN phase
          simp [opening, straight, Bridge.Serves] at served
        · exact (idle laws follow cycles n held grant phase).elim
    unfold State.reportParked
    rw [sameNet]
    split
    · next unknown =>
      refine parked fun laws follow cycles n held grant _ => ?_
      rw [cycles.netOfBridge laws follow held grant] at unknown
      cases unknown
    · next n net =>
      split
      · next ends => exact switchesKept_endRelease opening (State.netOfBridge_some net).1 ends.2
      · next other =>
        refine (parked fun laws follow cycles m held grant release => other ?_).trans (switchesKept_testWaiting _)
        rw [cycles.netOfBridge laws follow held grant] at net
        obtain rfl := Option.some.inj net
        exact ⟨release, grant⟩

end Cycles

end Sys2Proof.Machine

/-! # The laws of the nets and the switches after every step (R40, R41, R43, R48, R53, R57, R58, R67, R80, R82, R87) -/

namespace Sys2Proof.Machine

/-! ## Segment records that stand as they were -/

theorem Segment.KeptButAlarm.standing {g h : Segment} (kept : g.KeptButAlarm h) : g.SameStanding h := by
  rw [kept]; exact ⟨rfl, rfl, id⟩

theorem Segment.acknowledged_standing (g : Segment) : g.SameStanding g.acknowledged := by
  unfold Segment.acknowledged
  split <;> exact (g.setAlarm_kept _).standing

theorem Segment.clearNotices_standing (g : Segment) : g.SameStanding g.clearNotices := ⟨rfl, rfl, id⟩

theorem Segment.restartMark_standing (g : Segment) : g.SameStanding g.restartMark := ⟨rfl, rfl, id⟩

theorem Segment.goStale_standing (g : Segment) : g.SameStanding g.goStale := ⟨rfl, rfl, id⟩

theorem Segment.setEnables_standing (g : Segment) (e : BitVec 8) : g.SameStanding (g.setEnables e) := by
  unfold Segment.setEnables Segment.switchComparator
  dsimp only
  split
  · split <;> exact ⟨rfl, rfl, id⟩
  · split
    · split
      · exact Segment.SameStanding.trans (h := { g with enables := e }) ⟨rfl, rfl, id⟩ (Segment.evaluate_standing _)
      · exact ⟨rfl, rfl, id⟩
    · exact ⟨rfl, rfl, id⟩

theorem Segment.amend_standing (g : Segment) (d : Declared) (latch drive : Bool) :
    g.SameStanding (g.amend d g.source latch drive) := by
  unfold Segment.amend
  dsimp only
  split
  · exact ⟨rfl, rfl, id⟩
  · exact Segment.SameStanding.trans (h := { g with
      vMax := d.vMax, faultFactor := d.faultFactor, warnFactor := d.warnFactor, validity := d.validity, source := g.source,
      latch := latch, drive := drive, thresholds := thresholdsOf d.vMax d.faultFactor d.warnFactor })
      ⟨rfl, rfl, id⟩ (Segment.evaluate_standing _)

theorem Segment.reschedule_standing (g : Segment) (now : Uptime) : g.SameStanding (g.reschedule now) := by
  unfold Segment.reschedule
  split
  · exact .refl g
  · split <;> exact ⟨rfl, rfl, id⟩

section Operations

variable {s t : State}

theorem steady_setSeg {x : SegId} {g h : Segment} (held : s.seg x = some g) (standing : g.SameStanding h) :
    Steady s (s.setSeg x (some h)) :=
  have segs := segsKept_setSeg s (r := Segment.SameStanding) .refl held standing
  ⟨rfl, State.joint_congr (fun _ => rfl) segs.isSome, segs, fun _ => .refl _⟩

theorem steady_modSeg {x : SegId} {f : Segment → Segment} (standing : ∀ g : Segment, g.SameStanding (f g)) :
    Steady s (s.modSeg x f) :=
  have segs := segsKept_modSeg s (r := Segment.SameStanding) .refl (x := x) (f := f) fun g _ => standing g
  ⟨rfl, State.joint_congr (fun _ => rfl) segs.isSome, segs, fun _ => .refl _⟩

theorem steady_mapSegs {f : SegId → Segment → Segment} (standing : ∀ x (g : Segment), g.SameStanding (f x g)) :
    Steady s (s.mapSegs f) :=
  have segs := SegsKept.mapSegs (r := Segment.SameStanding) s f standing
  ⟨s.mapSegs_nets f, State.joint_congr (fun i => by rw [State.link, s.mapSegs_links, State.link]) segs.isSome, segs,
    fun b => by rw [State.bridge_mapSegs]; exact .refl _⟩

/-- A change of nothing but the notices, the enables and the parameters of the part, or its filters. -/
theorem steady_of_tables (nets : t.nets = s.nets) (segs : t.segs = s.segs) (links : t.links = s.links)
    (bridges : t.bridges = s.bridges) : Steady s t := by
  have kept : SegsKept Segment.SameStanding s t :=
    SegsKept.of_seg_eq (r := Segment.SameStanding) .refl fun x => by rw [State.seg, segs, State.seg]
  exact ⟨nets, State.joint_congr (fun i => by rw [State.link, links, State.link]) kept.isSome, kept,
    fun b => by rw [State.bridge, State.bridge, bridges]; exact .refl _⟩

theorem steady_bridges {f : BridgeId → Bridge} (still : ∀ b, (s.bridge b).Still (f b)) {t : State}
    (nets : t.nets = s.nets) (segs : t.segs = s.segs) (links : t.links = s.links)
    (bridges : t.bridges = Vector.ofFn f) : Steady s t := by
  have kept : SegsKept Segment.SameStanding s t :=
    SegsKept.of_seg_eq (r := Segment.SameStanding) .refl fun x => by rw [State.seg, segs, State.seg]
  exact ⟨nets, State.joint_congr (fun i => by rw [State.link, links, State.link]) kept.isSome, kept,
    fun b => State.bridge_ofFn (f := f) bridges b ▸ still b⟩

/-! ## The resets -/

theorem Bridge.restart_sound {r : Bridge} (sound : r.Sound) (now : Uptime) : (r.restart now).Sound := by
  obtain ⟨-, -, -, -, references, -⟩ := sound
  cases passed : r.trimPassed <;> simp_all [Bridge.Sound, Bridge.DrivesSafe, Bridge.restart]

theorem Bridge.powerUp_sound (r : Bridge) : r.powerUp.Sound := by
  have references : r.trim.references.isSome ↔ r.trim.valid = true := by
    unfold Trim.references; split <;> simp_all
  cases valid : r.trim.valid <;> simp_all [Bridge.Sound, Bridge.DrivesSafe, Bridge.powerUp]

/-- A part with no net and no drive on meets every law of the nets and the switches. -/
theorem State.Cleared.laws {f : BridgeId → Bridge} (h : t.Cleared f)
    (fresh : ∀ b, (f b).Sound ∧ ¬ (f b).Driven ∧ (f b).crossing = false) :
    t.SwitchLaws ∧ t.NetsFollowTables ∧ t.CyclesHeld := by
  have none_ : ∀ n, n ∉ t.nets := by simp [h.noNet]
  have components : t.components = [] := by
    rw [List.eq_nil_iff_forall_not_mem]
    intro c comp
    obtain ⟨nonempty, -⟩ := State.components_sorted comp
    obtain ⟨x, mem⟩ := List.exists_mem_of_ne_nil c nonempty
    have defined := State.defined_of_mem_component comp mem
    rw [h.free x] at defined
    cases defined
  refine ⟨⟨⟨by rw [h.noNet, components]; rfl, fun n held => absurd held (none_ n)⟩, fun n held => absurd held (none_ n),
    fun b => by rw [h.bridge]; exact (fresh b).1, fun b on => ?_, fun b on => ?_⟩,
    fun n held => absurd held (none_ n), fun n held => absurd held (none_ n)⟩
  · rw [h.bridge] at on; exact absurd on (fresh b).2.1
  · rw [h.bridge, (fresh b).2.2] at on; cases on

theorem State.Cleared.switchesKept {f : BridgeId → Bridge} (h : t.Cleared f)
    (fresh : s.BridgesSound → ∀ b, (f b).Sound ∧ ¬ (f b).Driven ∧ (f b).crossing = false) : SwitchesKept s t := by
  rintro ⟨-, -, bridges, -⟩
  obtain ⟨laws, follow, cycles⟩ := h.laws (fresh bridges)
  exact ⟨laws, fun _ => ⟨follow, fun _ => cycles⟩⟩

/-! ## Links -/

/-- A link record whose effective state is as it was: no topology event (R26). -/
theorem State.joint_setLink {i : LinkId} {r : Option Link}
    (same : (r.filter s.joins).map (fun l => (l.endA, l.endB)) = s.joint i) (j : LinkId) :
    (s.setLink i r).joint j = s.joint j := by
  rw [State.joint, State.link_setLink]
  split
  · next here => subst here; exact same
  · rfl

theorem switchesKept_relink {i : LinkId} {r : Option Link} {event : Bool}
    (same : event = false → (r.filter s.joins).map (fun l => (l.endA, l.endB)) = s.joint i) :
    SwitchesKept s (s.relink i r event) := by
  unfold State.relink
  split
  · exact switchesKept_recompute rfl fun _ => .refl _
  · next quiet =>
    exact Steady.switchesKept ⟨rfl, State.joint_setLink (same (by simpa using quiet)), segsKept_standing s, fun _ => .refl _⟩

theorem State.joins_opened {l : Link} (opened : ¬ l.effective = .closed) : s.joins l = false := by
  simp [State.joins, opened]

theorem State.joins_congr {l k : Link} (effective : k.effective = l.effective) (endA : k.endA = l.endA)
    (endB : k.endB = l.endB) : s.joins k = s.joins l := by
  simp only [State.joins, effective, endA, endB]

theorem Link.judge_effective (l : Link) (now : Uptime) : (l.judge now).effective = l.effective := by
  unfold Link.judge
  split
  · split <;> rfl
  · rfl

theorem State.filter_joins_map {l : Link} : ((some l).filter s.joins).map (fun k => (k.endA, k.endB)) =
    if s.joins l then some (l.endA, l.endB) else none := by
  cases joins : s.joins l <;> simp [Option.filter, joins]

theorem State.filter_joins_congr {l k : Link} (effective : k.effective = l.effective) (endA : k.endA = l.endA)
    (endB : k.endB = l.endB) : ((some k).filter s.joins).map (fun m => (m.endA, m.endB)) =
      ((some l).filter s.joins).map fun m => (m.endA, m.endB) := by
  rw [State.filter_joins_map, State.filter_joins_map, State.joins_congr effective endA endB, endA, endB]

theorem switchesKept_changeAux (i : AuxLine) : SwitchesKept s (s.changeAux i) := by
  have nets : (s.turnAux i).nets = s.nets := by rw [s.turnAux_but_lines]
  rw [s.changeAux_eq]
  split
  · exact switchesKept_recompute nets fun b => by rw [s.bridge_turnAux]; exact .refl _
  · next quiet =>
    rw [effectiveChanged_iff] at quiet
    push Not at quiet
    have segs : SegsKept Segment.SameStanding s (s.turnAux i) :=
      SegsKept.of_seg_eq (r := Segment.SameStanding) .refl fun x => by rw [State.seg, s.segs_turnAux, State.seg]
    refine Steady.switchesKept ⟨nets, fun j => ?_, segs, fun b => by rw [s.bridge_turnAux]; exact .refl _⟩
    have joins : (s.turnAux i).joins = s.joins := funext fun l => by simp only [State.joins, segs.isSome]
    have same := quiet j
    rw [s.link_turnAux] at same
    rw [State.joint, State.joint, joins, s.link_turnAux]
    cases held : s.link j with
    | none => rfl
    | some l =>
      rw [held] at same
      obtain ⟨endA, endB⟩ := l.follow_ends i (s.aux[i]).change.level s.uptime
      exact State.filter_joins_congr (Option.some.inj same).symm endA endB

theorem switchesKept_flagDisagreement (i : LinkId) : SwitchesKept s (s.flagDisagreement i) := by
  refine Steady.switchesKept ⟨rfl, fun j => ?_, segsKept_standing s, fun _ => .refl _⟩
  refine State.joint_setLink (s := s) ?_ j
  rw [State.joint]
  cases s.link i with
  | none => rfl
  | some l => exact State.filter_joins_congr rfl rfl rfl

/-! ## Spots -/

/-- A spot of a member of a net that measures (R91). -/
theorem switchesKept_requestSpot {x : SegId} {g : Segment} (held : s.seg x = some g) (now : Uptime)
    (measurable : ∀ n, s.netOf x = some n → n.state ≠ .external ∧ n.state ≠ .unmeasurable) :
    SwitchesKept s (s.setSeg x (some (g.requestSpot now))) := by
  have seg (y : SegId) : (s.setSeg x (some (g.requestSpot now))).seg y = if x = y then some (g.requestSpot now) else s.seg y :=
    State.seg_setSeg ..
  have defined (y : SegId) : ((s.setSeg x (some (g.requestSpot now))).seg y).isSome = (s.seg y).isSome := by
    rw [seg]
    split
    · next same => rw [← same, held]; rfl
    · rfl
  rintro ⟨components, sound, bridges, grants⟩
  have apart := components.apart
  refine ⟨⟨?_, sound, bridges, grants⟩, fun follow => ⟨fun n heldN => ?_, fun cycles => cycles⟩⟩
  · obtain ⟨members, anchors⟩ := components
    refine ⟨?_, anchors⟩
    rw [State.components_congr defined (State.joint_congr (fun _ => rfl) defined)]
    exact members
  · obtain ⟨set, supervises, members⟩ := follow n heldN
    refine ⟨set, fun ext stuck eligible hext => supervises ext stuck eligible (hext.trans ?_), fun y mem k after => ?_⟩
    · refine exists_congr fun y => and_congr_right fun _ => ?_
      rw [seg]
      split
      · next same => subst same; simp [held, Segment.requestSpot]
      · rfl
    · rw [seg] at after
      split at after
      · next same =>
        subst same
        obtain rfl := Option.some.inj after
        obtain ⟨flag, -⟩ := members x mem g held
        obtain ⟨external, unmeasurable⟩ := measurable n (apart.netOf heldN mem)
        exact ⟨flag, fun either => (either.elim external unmeasurable).elim⟩
      · exact members y mem k after

/-! ## Bridges -/

theorem countUp_le (n : Nat) : countUp n ≤ 20 := min_le_left _ _

theorem watch_le (wrong : Bool) (n : Nat) : watch wrong n ≤ 20 := by
  unfold watch
  split
  · exact countUp_le n
  · exact Nat.zero_le _

/-- A 1 ms sample writes senses and counts (R66, R70). -/
theorem Bridge.sense_still (r : Bridge) (p n : Bool) : r.Still (r.sense p n) := by
  rw [r.sense_kept p n]
  refine ⟨⟨rfl, rfl, rfl⟩, rfl, rfl, id, fun sound => ?_⟩
  obtain ⟨drives, cause, crossing, trim, references, timeout, watchP, watchN, up, un⟩ := sound
  have counts : (r.sense p n).timeout ≤ 20 ∧ (r.sense p n).watchP ≤ 20 ∧ (r.sense p n).watchN ≤ 20 := by
    have step (c : Bool) (k : Nat) (le : k ≤ 20) : (if c then k else countUp k) ≤ 20 := by
      split
      · exact le
      · exact countUp_le k
    unfold Bridge.sense
    dsimp only
    split
    · split
      · exact ⟨step _ _ timeout, watchP, watch_le _ _⟩
      · exact ⟨step _ _ timeout, watch_le _ _, watchN⟩
    · split <;> exact ⟨timeout, watch_le _ _, watch_le _ _⟩
    · split <;> exact ⟨timeout, watch_le _ _, watch_le _ _⟩
    · exact ⟨step _ _ timeout, watchP, watchN⟩
    · exact ⟨timeout, watch_le _ _, watch_le _ _⟩
    · split
      · exact ⟨timeout, watch_le _ _, watch_le _ _⟩
      · exact ⟨timeout, watchP, watchN⟩
  obtain ⟨timeout, watchP, watchN⟩ := counts
  exact ⟨drives, cause, crossing, trim, references, timeout, watchP, watchN, up, un⟩

/-- A switch fault of a bridge whose trim check passed, and the recompute behind it (R70, R72 to R75). -/
theorem switchesKept_faultBridge {b : BridgeId} {c : FaultCause} (switch : c ≠ .trim)
    (untrimmed : (s.bridge b).Sound → (s.bridge b).cause ≠ some .trim) : SwitchesKept s (s.faultBridge b c) := by
  refine switchesKept_recompute rfl fun d => ?_
  rw [State.bridge_raiseDevice, State.bridge_modBridge]
  split
  · next same =>
    subst same
    exact ⟨fun sound => Bridge.enterFaulted_sound sound (untrimmed sound) switch s.uptime,
      fun on => by simp [Bridge.Driven, Bridge.enterFaulted] at on, nofun, .inr (.inl rfl)⟩
  · exact .refl _

theorem Bridge.Sound.untrimmed {r : Bridge} (sound : r.Sound) (working : r.state ≠ .faulted) : r.cause ≠ some .trim := by
  rw [sound.cause_none working]; nofun

theorem switchesKept_attached {b : BridgeId} {x : SegId} {o : Option SegId} {f : Segment → Segment} :
    SwitchesKept s (((s.modBridge b fun r => { r with attached := o }).modSeg x f).recompute) := by
  refine switchesKept_recompute rfl fun c => ?_
  rw [State.bridge_modSeg, State.bridge_modBridge]
  split
  · next same => subst same; exact ⟨fun sound => sound, id, id, .inl ⟨rfl, rfl, rfl⟩⟩
  · exact .refl _

end Operations

/-! ## The rows -/

theorem Accepts.switchesKept {s t : State} (h : Accepts s t) : SwitchesKept s t := by
  cases h with
  | clearNotices x g held => exact (steady_setSeg held g.clearNotices_standing).switchesKept
  | clearAllNotices => exact (steady_mapSegs fun _ g => g.clearNotices_standing).switchesKept
  | clearDeviceNotices | setDeviceEnables | setTiming => exact (steady_of_tables rfl rfl rfl rfl).switchesKept
  | setEnables x g e held => exact (steady_setSeg held (g.setEnables_standing e)).switchesKept
  | setAllEnables f8 => exact (steady_mapSegs fun _ g => g.setEnables_standing _).switchesKept
  | restart raw =>
    refine (s.cleared_restart raw).switchesKept fun sound b => ⟨Bridge.restart_sound (sound b) _, ?_, rfl⟩
    simp [Bridge.Driven, Bridge.restart]
  | defineSegment x d src latch drive free => exact switchesKept_recompute rfl fun _ => .refl _
  | amendSegment x g d src latch drive held =>
    have sourced : SwitchesKept s (if src = g.source then s.setSeg x (some (g.amend d.clamp src latch drive))
        else (s.setSeg x (some (g.amend d.clamp src latch drive))).recompute) := by
      split
      · next same => exact (steady_setSeg held (same ▸ g.amend_standing d.clamp latch drive)).switchesKept
      · exact switchesKept_recompute rfl fun _ => .refl _
    unfold State.amend
    dsimp only
    split
    · exact sourced
    · exact sourced.trans (steady_modSeg fun h => h.reschedule_standing _).switchesKept
  | retireSegment x g held unlinked =>
    cases bridge : g.bridge with
    | none => exact switchesKept_recompute rfl fun _ => .refl _
    | some b =>
      refine switchesKept_recompute rfl fun c => ?_
      rw [State.bridge_setSeg, State.detachHeld, State.detach, State.bridge_modBridge]
      split
      · next same => subst same; exact ⟨fun sound => sound, id, id, .inl ⟨rfl, rfl, rfl⟩⟩
      · exact .refl _
  | clearLowMark x g held => exact (steady_setSeg held g.restartMark_standing).switchesKept
  | acknowledgeFault x g held => exact (steady_setSeg held g.acknowledged_standing).switchesKept
  | requestSpot x g held measurable => exact switchesKept_requestSpot held _ measurable
  | startSpot x g n held net rest =>
    intro laws
    obtain ⟨heldN, mem⟩ := State.netOf_some net
    have apart := laws.1.apart
    refine ((switchesKept_requestSpot held s.uptime fun m heldM => ?_).trans
      (switchesKept_startCycle (n := n) (apart.netAt heldN) (.inr rest))) laws
    obtain rfl := Option.some.inj (net.symm.trans heldM)
    rw [rest]; decide
  | defineLink i a b m sensor d l free =>
    refine switchesKept_relink fun quiet => ?_
    rw [State.filter_joins_map, State.joins_opened (of_decide_eq_false quiet), State.joint, free]
    rfl
  | retireLink i l held =>
    refine switchesKept_relink fun quiet => ?_
    rw [State.joint, held, State.filter_joins_map, State.joins_opened (of_decide_eq_false quiet)]
    rfl
  | declareLink i l r d held mode changed record =>
    refine switchesKept_relink fun quiet => ?_
    obtain ⟨endA, endB⟩ : r.endA = l.endA ∧ r.endB = l.endB := by rw [record]; exact Link.judge_ends _ _
    have effective : r.effective = l.effective := by simpa using quiet
    rw [State.joint, held, State.filter_joins_congr effective endA endB]
  | attachBridge b x g held => exact switchesKept_attached
  | detachBridge b x held => exact switchesKept_attached
  | resetBridge b faulted untrimmed =>
    refine switchesKept_recompute rfl fun c => ?_
    rw [State.bridge_modBridge]
    split
    · next same =>
      subst same
      exact ⟨fun sound => Bridge.returned_sound sound untrimmed _,
        fun on => by simp [Bridge.Driven, Bridge.returned, Bridge.enterOpening] at on, nofun, .inr (.inr faulted)⟩
    · exact .refl _

theorem Occurs.switchesKept {s : State} {c : Instr} {due : Bool} {effect : State → State} (h : Occurs s c due effect)
    (isDue : due = true) : SwitchesKept s (effect s) := by
  cases h with
  | filteredChangeAux i => exact switchesKept_changeAux i
  | filteredChangeExt i =>
    have level : SwitchesKept s { s with ext := s.ext.set i (s.ext[i]).change } :=
      (steady_of_tables rfl rfl rfl rfl).switchesKept
    refine level.trans (steady_mapSegs fun x g => ?_).switchesKept
    split
    · split
      · exact (g.applyVerdict_kept _).standing
      · exact .refl g
    · exact .refl g
  | agreementWindowExpiry i => exact switchesKept_flagDisagreement i
  | expiry x => exact (steady_modSeg fun g => g.goStale_standing).switchesKept
  | sampleEvent b p n => exact switchesKept_sampleBridge b p n
  | dwellTimerExpiry a =>
    dsimp only [State.takeDwell]
    split
    · exact switchesKept_endDwell _ _
    · exact .refl s
  | maxDwellTimerExpiry a =>
    dsimp only [State.takeMaxDwell]
    split
    · next n dueN =>
      obtain ⟨net, _, _, -, -, confirmation, -⟩ := (State.maxDwellDue_eq_some_iff a n).mp dueN
      exact switchesKept_endPhase (State.netAt_some net).1 (by rw [confirmation]; rfl) true
    · exact .refl s
  | quietTimerExpiry a =>
    obtain ⟨n, net, -⟩ := Option.any_iff_exists.mp isDue
    exact switchesKept_takeQuiet net
  | spacingExpiry a =>
    obtain ⟨n, net, over_⟩ := Option.any_iff_exists.mp isDue
    exact switchesKept_startCycle net (.inr ((n.spacingDue_iff s.uptime).mp over_).1)
  | closeConfirmation b => exact switchesKept_closeConfirmation ((s.bridge b).closeConfirmed_iff.mp isDue).1
  | openConfirmation b => exact switchesKept_confirmOpen ((s.bridge b).openConfirmed_iff.mp isDue).1
  | closeTimeout b =>
    have state := ((s.bridge b).closeTimedOut_iff.mp isDue).1
    exact switchesKept_faultBridge nofun fun sound => sound.untrimmed (by rw [state]; decide)
  | openTimeout b =>
    have state := ((s.bridge b).openTimedOut_iff.mp isDue).1
    exact switchesKept_faultBridge nofun fun sound => sound.untrimmed (by rw [state]; decide)
  | senseDropout b =>
    have state := ((s.bridge b).droppedOut_iff.mp isDue).1
    exact switchesKept_faultBridge nofun fun sound => sound.untrimmed (by rcases state with h | h <;> rw [h] <;> decide)
  | stuckOppositeSense b =>
    have state := ((s.bridge b).oppositeStuck_iff.mp isDue).1
    exact switchesKept_faultBridge nofun fun sound => sound.untrimmed (by rcases state with h | h | h <;> rw [h] <;> decide)
  | stuckInParked b =>
    have state := ((s.bridge b).parkedStuck_iff.mp isDue).1
    exact switchesKept_faultBridge nofun fun sound => sound.untrimmed (by rw [state]; decide)
  | stuckEscalation b =>
    have cause := ((s.bridge b).escalates_iff.mp isDue).2.1
    exact switchesKept_faultBridge nofun fun _ => by rcases cause with h | h <;> rw [h] <;> decide

theorem switchesKept_rows : RowRelation SwitchesKept where
  trans := SwitchesKept.trans
  same h := h.steady.switchesKept
  accepts := Accepts.switchesKept
  occurs h due := h.switchesKept due
  tick s raw := by
    have steady : Steady s (s.tick raw) :=
      steady_bridges (fun b => (s.bridge b).sense_still (raw.snsP.getLsbD b.val) (raw.snsN.getLsbD b.val)) rfl rfl rfl rfl
    exact steady.switchesKept
  stop s := by
    have steady : Steady s s.stop := by
      refine steady_bridges (f := fun b => { s.bridge b with drvP := false, drvN := false }) (fun b => ?_) rfl rfl rfl rfl
      refine ⟨⟨rfl, rfl, rfl⟩, rfl, rfl, fun on => by simp [Bridge.Driven] at on, fun sound => ?_⟩
      obtain ⟨-, rest⟩ := sound
      exact ⟨by simp [Bridge.DrivesSafe], rest⟩
    exact steady.switchesKept
  afresh s raw := (s.cleared_startAfresh raw).switchesKept fun _ b =>
    ⟨(s.bridge b).powerUp_sound, by simp [Bridge.Driven, Bridge.powerUp], rfl⟩

/-- Settles O58. -/
theorem switchLawsAreKept : Obligations.SwitchLawsAreKept := by
  unfold Obligations.SwitchLawsAreKept
  exact fun s t laws next => switchesKept_rows.step next laws

end Sys2Proof.Machine

/-! # The state after a power-on reset, and a newly defined segment (R4, R21, R38, R46, R53, R54, R60, R79, R154, R160) -/

namespace Sys2Proof.Machine

/-! ## The state after a power-on reset -/

theorem cleared_reset : State.reset.Cleared fun _ => Bridge.reset where
  free x := Vector.getElem_replicate x.isLt
  noLink i := Vector.getElem_replicate i.isLt
  noNet := rfl
  timing := rfl
  bridge b := Vector.getElem_replicate b.isLt

theorem Bridge.reset_sound : Bridge.reset.Sound := by simp [Bridge.Sound, Bridge.DrivesSafe, Bridge.reset]

theorem reset_linesFollow : State.reset.LinesFollow := by
  refine ⟨⟨nofun, fun ⟨_, x, g, held, _⟩ => ?_⟩, fun stopped => absurd ⟨rfl, rfl⟩ stopped,
    fun _ _ => ⟨fun _ => .inr (by decide), fun _ => rfl⟩⟩
  rw [cleared_reset.free] at held
  cases held

/-- Settles O60. -/
theorem resetIsSound : Obligations.ResetIsSound := by
  unfold Obligations.ResetIsSound
  have cleared := cleared_reset
  obtain ⟨laws, follow, cycles⟩ := cleared.laws fun _ => ⟨Bridge.reset_sound, by simp [Bridge.Driven, Bridge.reset], rfl⟩
  have noSegment {x : SegId} {g : Segment} (held : State.reset.seg x = some g) : False := by
    rw [cleared.free] at held; cases held
  have noLink {i : LinkId} {l : Link} (held : State.reset.link i = some l) : False := by
    rw [cleared.noLink] at held; cases held
  refine ⟨⟨reset_linesFollow, fun i l held => (noLink held).elim, fun b x => ?_, laws, follow, cycles,
    fun x g held => (noSegment held).elim, fun i l held => (noLink held).elim, fun i l held => (noLink held).elim,
    timing_reset_sound⟩, ⟨rfl, rfl⟩, rfl, cleared.free, cleared.noLink, rfl, fun b => ?_, rfl, rfl, rfl, rfl, rfl⟩
  · rw [cleared.bridge, cleared.free]
    exact ⟨nofun, fun ⟨_, none_, _⟩ => nomatch none_⟩
  · rw [cleared.bridge]
    exact ⟨rfl, rfl, rfl, rfl⟩

/-! ## A newly defined segment -/

section Fresh

variable {s : State} {x : SegId} {d : Segment}

/-- No link touches a segment that was FREE, so it is a component of its own (R41). -/
theorem State.alone_component (free : s.seg x = none) (joins : s.LinksJoinSegments) (d : Segment) :
    [x] ∈ (s.setSeg x (some d)).components := by
  have isolated (y : SegId) : ¬ (s.setSeg x (some d)).Adjacent x y := by
    rintro ⟨i, l, held, -, -, -, ends⟩
    obtain ⟨endA, endB, -⟩ := joins i l held
    rcases ends with ⟨rfl, -⟩ | ⟨-, rfl⟩
    · rw [free] at endA; cases endA
    · rw [free] at endB; cases endB
  have defined : ((s.setSeg x (some d)).seg x).isSome := by rw [State.seg_setSeg, if_pos rfl]; rfl
  obtain ⟨c, comp, mem⟩ := State.exists_component defined
  have alone : ∀ y ∈ c, y = x := by
    intro y inside
    obtain ⟨-, -, path⟩ := (State.same_component_iff x y).mp ⟨c, comp, mem, inside⟩
    rcases Relation.ReflTransGen.cases_head path with same | ⟨z, step, -⟩
    · exact same.symm
    · exact absurd step (isolated z)
  obtain ⟨-, ascending⟩ := State.components_sorted comp
  have single : c = [x] := by
    obtain _ | ⟨a, as⟩ := c
    · cases mem
    · obtain rfl := alone a List.mem_cons_self
      obtain _ | ⟨b, bs⟩ := as
      · rfl
      · have same := alone b (by simp)
        have below := (List.pairwise_cons.mp ascending).1 b List.mem_cons_self
        exact absurd below (by rw [same]; exact lt_irrefl _)
  exact single ▸ comp

/-- No held net has a FREE segment as a member. -/
theorem State.NetsAreComponents.not_mem (components : s.NetsAreComponents) (free : s.seg x = none) {m : Net}
    (held : m ∈ s.nets) : x ∉ m.members := by
  intro mem
  have comp : m.members ∈ s.components := components.1 ▸ List.mem_map_of_mem held
  have defined := State.defined_of_mem_component comp mem
  rw [free] at defined
  cases defined

/-- No bridge is attached to a FREE segment. -/
theorem State.bridgeSet_free (free : s.seg x = none) (agree : s.AttachmentsAgree) (d : Segment) :
    (s.setSeg x (some d)).bridgeSet [x] = [] := by
  rw [List.eq_nil_iff_forall_not_mem]
  intro b mem
  obtain ⟨y, inside, attached⟩ := (State.mem_bridgeSet _ _ _).mp mem
  obtain rfl := List.mem_singleton.mp inside
  obtain ⟨g, held, -⟩ := (agree b y).mp attached
  rw [free] at held
  cases held

/-- The supervision of a net of one segment without a bridge (R48). -/
theorem State.supervise_alone (s : State) (x : SegId) (d : Segment) :
    (s.setSeg x (some d)).supervise [x] [] = if d.source = .own then (.none, some .noBridge) else (.external, none) := by
  rw [State.supervise_eq (ext := d.source ≠ .own) (stuck := False) (eligible := False)]
  · by_cases own : d.source = .own <;> simp [own]
  · simp [State.seg_setSeg]
  · simp
  · simp

theorem State.verdict_alone (s : State) (x : SegId) (d : Segment) :
    (s.setSeg x (some d)).verdict [x] = .fault ↔ s.ReadsFault d.source := by
  rw [State.verdict_fault_iff]
  simp only [List.mem_singleton, exists_eq_left, State.seg_setSeg, if_true, Option.some.injEq, exists_eq_left']
  rfl

theorem State.ReadsFault.external {src : Source} (reads : s.ReadsFault src) : src ≠ .own := by
  rintro rfl
  simp [State.ReadsFault] at reads

/-- The net of a newly defined segment (R4, R44, R46). -/
theorem State.outcome_alone (free : s.seg x = none) (agree : s.AttachmentsAgree) (components : s.NetsAreComponents)
    (d : Segment) : (s.setSeg x (some d)).outcome [x] =
      (Net.blank x [x] []).placed [] (if d.source = .own then .none else .external)
        (if d.source = .own then some .noBridge else none) s.uptime s.timing.quiet := by
  have new : ∀ m ∈ (s.setSeg x (some d)).nets, m.members ≠ [x] := fun m held members =>
    components.not_mem free held (members ▸ List.mem_singleton_self x)
  rw [State.outcome_fresh new, State.bridgeSet_free free agree, State.supervise_alone]
  by_cases own : d.source = .own <;> simp [own]

/-- The record of a newly defined segment after its recompute (R46, R53, R54). -/
theorem State.record_alone (free : s.seg x = none) (joins : s.LinksJoinSegments) (components : s.NetsAreComponents)
    (sound : s.NetsSound) (cycles : s.CyclesHeld) (unspotted : d.spot = none) {g : Segment}
    (after : (s.setSeg x (some d)).recompute.seg x = some g) :
    g = (d.placedIn ((s.setSeg x (some d)).outcome [x]).state ((s.setSeg x (some d)).verdict [x])).raiseBits
      (0x04#8 ||| movedBits d.alarm
        (d.settledAlarm ((s.setSeg x (some d)).outcome [x]).state ((s.setSeg x (some d)).verdict [x]))) := by
  have apart : (s.setSeg x (some d)).NetsApart := components.apart
  have held : (s.setSeg x (some d)).seg x = some d := by rw [State.seg_setSeg, if_pos rfl]
  have record := State.member_unanswered apart sound (State.alone_component free joins d) (List.mem_singleton_self x) held
    after fun m heldM b covered => absurd ((cycles m heldM).1.covered x covered).1 (components.not_mem free heldM)
  have new : ¬ ∃ m ∈ (s.setSeg x (some d)).nets, m.members = [x] := fun ⟨m, heldM, members⟩ =>
    components.not_mem free heldM (members ▸ List.mem_singleton_self x)
  rw [if_neg new] at record
  rw [record, Segment.spotNotice, unspotted]
  simp

/-- The alarm and the notices of a newly defined segment by the reading of its source (R46, R53, R54). -/
theorem State.settled_alone (free : s.seg x = none) (joins : s.LinksJoinSegments) (agree : s.AttachmentsAgree)
    (components : s.NetsAreComponents) (sound : s.NetsSound) (cycles : s.CyclesHeld) (unspotted : d.spot = none)
    (clear : d.alarm = .clear) (silent : d.pending = 0#8) (unrepeated : d.repeated = false) {g : Segment}
    (after : (s.setSeg x (some d)).recompute.seg x = some g) :
    g.quality = d.quality ∧ g.attrTime = d.attrTime ∧ g.enables = d.enables ∧ g.repeated = false ∧
    (g.ext = true ↔ d.source ≠ .own) ∧ (¬ s.ReadsFault d.source → g.alarm = .clear ∧ g.pending = 0x04#8) ∧
    (s.ReadsFault d.source → g.alarm = .fault ∧ g.pending = 0x84#8) := by
  have state : ((s.setSeg x (some d)).outcome [x]).state = if d.source = .own then .unmeasurable else .external := by
    rw [State.outcome_alone free agree components]
    by_cases own : d.source = .own <;> simp [own, Net.placed]
  have record := State.record_alone free joins components sound cycles unspotted after
  rw [state] at record
  have external (reads : s.ReadsFault d.source) : (if d.source = .own then NetState.unmeasurable else .external) = .external :=
    if_neg reads.external
  have settled : d.settledAlarm (if d.source = .own then .unmeasurable else .external)
      ((s.setSeg x (some d)).verdict [x]) = .fault ↔ s.ReadsFault d.source := by
    refine ⟨fun fault => ?_, fun reads => ?_⟩
    · by_contra safe
      rw [Segment.settledAlarm, clear, if_neg (mt (s.verdict_alone x d).mp safe)] at fault
      simp at fault
    · rw [Segment.settledAlarm, external reads, (s.verdict_alone x d).mpr reads]
      rfl
  have calm (safe : ¬ s.ReadsFault d.source) : d.settledAlarm (if d.source = .own then .unmeasurable else .external)
      ((s.setSeg x (some d)).verdict [x]) = .clear := by
    rw [Segment.settledAlarm, clear, if_neg (mt (s.verdict_alone x d).mp safe)]
    simp
  refine ⟨by rw [record]; rfl, by rw [record]; rfl, by rw [record]; rfl, ?_, ?_, fun safe => ?_, fun reads => ?_⟩
  · rw [record]; simp [Segment.raiseBits, Segment.placedIn, silent, unrepeated]
  · rw [record]
    by_cases own : d.source = .own <;> simp [Segment.raiseBits, Segment.placedIn, own]
  · rw [record, Segment.raiseBits, Segment.placedIn, calm safe, clear, silent]
    exact ⟨rfl, rfl⟩
  · rw [record, Segment.raiseBits, Segment.placedIn, settled.mpr reads, clear, silent]
    exact ⟨rfl, rfl⟩

end Fresh

/-- Settles O23. -/
theorem definedSegmentStandsAlone : Obligations.DefinedSegmentStandsAlone := by
  unfold Obligations.DefinedSegmentStandsAlone
  intro f s x src ready long target free source joins agree components sound cycles
  obtain ⟨-, accepted⟩ := Statements.defineSegment f s ready long
  obtain ⟨-, -, defines⟩ := accepted x target
  obtain ⟨t, next, -, -, -, records⟩ := defines src _ _ _ _ free source rfl rfl rfl rfl
  obtain ⟨d, isSource, quality, attrTime, alarm, spot, enables, pending, repeated, records⟩ : ∃ d : Segment,
      d.source = src ∧ d.quality = .none ∧ d.attrTime = s.uptime ∧ d.alarm = .clear ∧ d.spot = none ∧ d.enables = 0xFF#8 ∧
      d.pending = 0#8 ∧ d.repeated = false ∧ t.records = (s.setSeg x (some d)).recompute.records :=
    ⟨_, rfl, rfl, rfl, rfl, rfl, rfl, rfl, rfl, records⟩
  have nets : t.nets = (s.setSeg x (some d)).recompute.nets := by
    have nets := congrArg State.nets records
    exact nets
  have segs : t.segs = (s.setSeg x (some d)).recompute.segs := by
    have segs := congrArg State.segs records
    exact segs
  have apart : (s.setSeg x (some d)).NetsApart := components.apart
  have outcome := State.outcome_alone free agree components d
  have member : (s.setSeg x (some d)).outcome [x] ∈ (s.setSeg x (some d)).recompute.nets :=
    (State.mem_recompute_nets apart _).mpr ⟨_, State.alone_component free joins d, rfl⟩
  have netOf : t.netOf x = some ((s.setSeg x (some d)).outcome [x]) := by
    rw [State.netOf, nets]
    refine (State.recompute_netsAreComponents apart).apart.netOf member ?_
    rw [State.outcome_members]
    exact List.mem_singleton_self x
  obtain ⟨g, after⟩ : ∃ g, (s.setSeg x (some d)).recompute.seg x = some g := by
    rw [← Option.isSome_iff_exists, (resolves_recompute _).segs.isSome, State.seg_setSeg, if_pos rfl]
    rfl
  obtain ⟨sameQuality, sameTime, sameEnables, unrepeated, ext, safe, reads⟩ :=
    State.settled_alone free joins agree components sound cycles spot alarm pending repeated after
  rw [isSource] at ext safe reads outcome
  refine ⟨t, g, _, next, by rw [State.seg, segs]; exact after, nets ▸ member, netOf, ?_⟩
  rw [outcome]
  refine ⟨rfl, rfl, rfl, rfl, rfl, sameQuality.trans quality, sameTime.trans attrTime, sameEnables.trans enables, unrepeated,
    fun own => ?_, fun external => ?_, safe, reads⟩
  · obtain ⟨clear, notices⟩ := safe fun fault => fault.external own
    have flag : g.ext = false := by rw [← Bool.not_eq_true, ext]; exact not_not.mpr own
    exact ⟨by rw [if_pos own]; rfl, if_pos own, flag, clear, notices⟩
  · exact ⟨by rw [if_neg external]; rfl, ext.mpr external⟩

end Sys2Proof.Machine
